-- ==== Sys2Proof/Word.lean ====
section
/-! DEFINITION. The words of the LV8's interfaces: bytes and their widths, as chapter 12 (Wire Formats) lays them out. -/

namespace Sys2Proof

/-- One byte of a wire, a FIFO or the frame store. -/
abbrev Byte := BitVec 8
/-- A two-byte number of a wire format (chapter 12: tags, frame ids, widths, heights, counts). -/
abbrev Word16 := BitVec 16
/-- A three-byte number (chapter 12: offsets). -/
abbrev Word24 := BitVec 24
/-- A position or a time (R22, R27): 32 bits, modulo 2^32. -/
abbrev Word32 := BitVec 32

/-- A tag, 0 to 1023 (R4). -/
abbrev Tag := Fin 1024
/-- The id of a frame record, 0 to 1023 (7.2). -/
abbrev FrameId := Fin 1024
/-- A station, its camera port and its trigger line (chapter 0). -/
abbrev Station := Fin 8
/-- The number of a 64 KiB block of the frame store (R104). -/
abbrev Block := Fin 8192

end Sys2Proof
end

