-- ==== Sys2Proof/Config.lean ====
section
/-! DEFINITION. What the LV8 fixes once (capacities, limits) and the free values the manual leaves open. -/

namespace Sys2Proof.Config

/-- The item queue holds up to 128 records (R1). -/
def queueCapacity : Nat := 128
/-- A station's trigger queue holds up to 4 entries (R71). -/
def triggerQueueCapacity : Nat := 4
/-- A port's FIFO holds up to 262,144 pixel bytes (R93). -/
def fifoCapacity : Nat := 262144
/-- The size of a block of the frame store in bytes (R104). -/
def blockSize : Nat := 65536
/-- The number of blocks of the frame store (R104). -/
def blockCount : Nat := 8192
/-- The longest block list of a record (R98). -/
def maxBlocks : Nat := 128
/-- The region queue holds up to 16 entries (R138). -/
def regionQueueCapacity : Nat := 16
/-- The report queue holds up to 64 reports (R140). -/
def reportQueueCapacity : Nat := 64
/-- The reply queue holds up to 16 replies (R141). -/
def replyQueueCapacity : Nat := 16
/-- The largest payload of a data segment (R123). -/
def maxSegmentPayload : Nat := 8192
/-- T_MAX, the largest time-to-point (R30). -/
def tMax : Nat := 16777215
/-- The length of a speed window in microseconds (R28). -/
def windowLength : Nat := 1024
/-- Good blocks in a row that bring the link up (R162). -/
def goodBlocksToUp : Nat := 4
/-- A pulse train lasts 26 bit periods (R75). -/
def trainPeriods : Nat := 26

/-- FREE VALUE (assumption log 6): a byte the SPI port sends past the end of the response it holds.
R175 says what is sent up to the end of the response body and nothing of what follows. -/
opaque unstatedByte : Nat → Byte

/-- FREE VALUE (assumption log 30): what a place (column, row) outside the frame reads as in a region whose rectangle was
clamped to an earlier frame (R138). R139 states the pixels of the frame alone. -/
opaque unstatedPixel : Nat → Nat → BitVec 12

/-- The number of data bytes of a camera header (12.3). -/
def headerLength : Nat := 8
/-- The number of data bytes of a camera trailer (12.3). -/
def trailerLength : Nat := 6
/-- The number of data bytes of a downlink block (R160). -/
def blockLength : Nat := 64

end Sys2Proof.Config
end

