-- ==== Sys2Proof/Syntax.lean ====
section
/-! DEFINITION. The commands of the LV8: one constructor of `Instr` for each row of spec/opcode_table.json.
Operands that arrive over a wire are the raw fields of chapter 12, so that a value out of range (R192) is an operand too. -/

namespace Sys2Proof

/-- The two gates (chapter 9). -/
inductive Gate where
  | reject
  | rework
  deriving DecidableEq, Repr

/-- The four blocks that watch a count (R26). -/
inductive Watcher where
  | triggerUnit
  | decisionUnit
  | gateUnit
  | itemQueue
  deriving DecidableEq, Repr

/-- One of the 24 orders in which the four watchers may take one count; R26 gives none, so the sender chooses (log 3). -/
abbrev WatchOrder := Fin 24

/-- The levels that the first samples after the reset pin find on the inputs (R32, R34, R37; log 4). -/
structure Pins where
  a : Bool
  b : Bool
  sensor : Bool
  halt : Bool
  deriving DecidableEq, Repr

/-- What a FRAME_HEADER brings (R87, R88): the sync pattern alone; the pattern and all eight bytes; or the pattern, fewer
bytes and then a pattern. The sync pattern is not repeated where it has just come (log 23). -/
inductive HeaderArrival where
  | pattern
  | complete (word : Word24) (width height : Word16) (depth : Byte)
  | cutBySync
  | cutByEnd
  deriving DecidableEq, Repr

/-- How a frame's pixels or its trailer end (R87, R94): cut off by a pattern, so that the frame ends without a good trailer,
or, `pixelsByEnd`, the end pattern alone, after which a trailer is collected (log 23). -/
inductive FrameCut where
  | pixelsByEnd
  | pixelsBySync
  | trailerBySync
  | trailerByEnd
  deriving DecidableEq, Repr

/-- What a BAD_BLOCK brings on the downlink (R160, R161): a whole block whose check fails, a partial block and the block
start that cuts it short, or a single character, which the table has no row of its own for (log 8). -/
inductive BlockArrival where
  | checkFails
  | cutShort
  | blockStart
  | dataByte (byte : Byte)
  deriving DecidableEq, Repr

/-- What a WRITE_REQUEST brings (R175): a whole transaction, at the release of chip select that ends it; or one event of the
line port's bus, which the table has no row of its own for (log 8): chip select is asserted, a byte is shifted in, chip select
is released. -/
inductive BusArrival where
  | transaction (bytes : List Byte)
  | chipSelect
  | busByte (byte : Byte)
  | release
  deriving DecidableEq, Repr

/-- Who sends a KEEP or a RELEASE: the office, with its request number, or the line controller (R113). -/
inductive Master where
  | office (number : Byte)
  | lineController
  deriving DecidableEq, Repr

/-- One station of a WRITE PLAN payload (12.7). -/
structure StationPayload where
  flags : Byte
  offset : Word24
  exposure : Byte
  deriving DecidableEq, Repr

/-- The 55 bytes of a WRITE PLAN payload (12.7). -/
structure PlanPayload where
  bank : Byte
  stations : Vector StationPayload 8
  decision : Word24
  rejectGate : Word24
  reworkGate : Word24
  width : Word16
  exit : Word24
  deriving DecidableEq, Repr

/-- One setting item of CONFIGURE: setting number and value (12.7). -/
structure SettingItem where
  number : Byte
  value : Word24
  deriving DecidableEq, Repr

/-- The nineteen requests of the line port (11.3), with the fields of their payloads (12.7). -/
inductive LineRequest where
  | readStatus
  | setMode (mode : Byte)
  | configure (items : List SettingItem)
  | readConfiguration
  | writePlan (plan : PlanPayload)
  | commitPlan (bank : Byte)
  | readPlan (bank : Byte)
  | announceItem (back : Word16)
  | voidItem (mode : Byte) (number : Word16)
  | forceDecision (mode : Byte) (number : Word16) (action : Byte)
  | readItem (mode : Byte) (number : Word16)
  | keep (target : Byte) (number tag : Word16)
  | release (target : Byte) (number tag : Word16)
  | readEvents
  | clearEvents (marks : Word16)
  | setEvents (marks : Word16)
  | setEventEnables (enables : Word16)
  | readCounts (clearAfter : Byte)
  | clear
  deriving DecidableEq, Repr

/-- The requests of a good downlink block (12.6), with their request numbers; `unknown` names none of the seven kinds (R167). -/
inductive OfficeRequest where
  | idle (number : Byte)
  | verdict (number mode : Byte) (address : Word16) (action failMask : Byte)
  | keep (number target : Byte) (frame tag : Word16)
  | release (number target : Byte) (frame tag : Word16)
  | fetchRegion (number : Byte) (frame tag x y w h : Word16) (factor : Byte)
  | queryItem (number mode : Byte) (address : Word16)
  | queryStatus (number : Byte)
  | unknown (kind number : Byte)
  deriving DecidableEq, Repr

/-- The commands of the LV8, in the order of spec/opcode_table.json. -/
inductive Instr where
  /-- RESET_PIN, R187; `pins`: the levels first sampled after it. -/
  | resetPin (pins : Pins)
  /-- ENCODER_STEP, R23; the new pair of levels, and the order in which a count is watched. -/
  | encoderStep (a b : Bool) (order : WatchOrder)
  /-- SPEED_WINDOW_END, R29. -/
  | speedWindowEnd
  /-- SENSOR_RISING_EDGE, R33: a high sample of the infeed sensor. -/
  | sensorRisingEdge
  /-- TRIGGER_EXAMINATION_AT_CREATION, R77. -/
  | triggerExaminationAtCreation (tag : Tag)
  /-- DECISION_EXAMINATION_AT_CREATION, R60. -/
  | decisionExaminationAtCreation (tag : Tag)
  /-- TRAIN_END, R76. -/
  | trainEnd (station : Station)
  /-- CAMERA_TIMEOUT_EXPIRY, R78: the oldest entry of the station's timeout list. -/
  | cameraTimeoutExpiry (station : Station)
  /-- GATE_EXAMINATION_AFTER_PLACING, R147. -/
  | gateExaminationAfterPlacing (tag : Tag)
  /-- RECOVERY_EXPIRY, R151. -/
  | recoveryExpiry (gate : Gate)
  /-- HALT_INPUT_RISING_EDGE, R153: a HIGH sample of the halt input. -/
  | haltInputRisingEdge
  /-- HALT_INPUT_FALLING_EDGE, R34: a LOW sample of the halt input. -/
  | haltInputFallingEdge
  /-- LAMP_BLINK_TOGGLE, R157. -/
  | lampBlinkToggle
  /-- FRAME_HEADER, R88. -/
  | frameHeader (port : Station) (header : HeaderArrival)
  /-- PIXEL_BYTE, R92: a data byte on a port, a pixel byte in PIXELS, a byte of the header or trailer in HEADER and TRAILER (R87). -/
  | pixelByte (port : Station) (byte : Byte)
  /-- FRAME_TRAILER, R95: the end pattern, not repeated where it has just come (log 23), and the six bytes. -/
  | frameTrailer (port : Station) (rows : Word16) (crc : Word32)
  /-- FRAME_ENDED_WITHOUT_TRAILER, R94. -/
  | frameEndedWithoutTrailer (port : Station) (cut : FrameCut)
  /-- WRITE_GRANT, R96. -/
  | writeGrant
  /-- GRANT_END, R97. -/
  | grantEnd
  /-- SEGMENT_BOUNDARY, R124. -/
  | segmentBoundary
  /-- BAD_BLOCK, R161. -/
  | badBlock (arrival : BlockArrival)
  /-- IDLE_BLOCK, R163. -/
  | idleBlock (number : Byte)
  /-- VERDICT, R55; request number, address mode, tag or depth, action, fail mask. -/
  | verdict (number mode : Byte) (address : Word16) (action failMask : Byte)
  /-- KEEP, R113. -/
  | keep (master : Master) (target : Byte) (number tag : Word16)
  /-- RELEASE, R113. -/
  | release (master : Master) (target : Byte) (number tag : Word16)
  /-- FETCH_REGION, R137. -/
  | fetchRegion (number : Byte) (frame tag x y w h : Word16) (factor : Byte)
  /-- QUERY_ITEM, R169. -/
  | queryItem (number mode : Byte) (address : Word16)
  /-- QUERY_STATUS, R170. -/
  | queryStatus (number : Byte)
  /-- UNKNOWN_REQUEST_KIND, R167. -/
  | unknownRequestKind (kind number : Byte)
  /-- LOSS_TIMER_EXPIRY, R164. -/
  | lossTimerExpiry
  /-- READ_RESPONSE, R175; how many bytes the transaction clocks. -/
  | readResponse (clocked : Nat)
  /-- WRITE_REQUEST, R176; the bytes the master sent while chip select was asserted. -/
  | writeRequest (arrival : BusArrival)
  /-- RESPONSE_PLACED, R177. -/
  | responsePlaced
  /-- READ_STATUS, R179. -/
  | readStatus
  /-- SET_MODE, R180. -/
  | setMode (mode : Byte)
  /-- CONFIGURE, R182. -/
  | configure (items : List SettingItem)
  /-- READ_CONFIGURATION, R182. -/
  | readConfiguration
  /-- WRITE_PLAN, R43. -/
  | writePlan (plan : PlanPayload)
  /-- COMMIT_PLAN, R46. -/
  | commitPlan (bank : Byte)
  /-- READ_PLAN, R50. -/
  | readPlan (bank : Byte)
  /-- ANNOUNCE_ITEM, R7. -/
  | announceItem (back : Word16)
  /-- VOID_ITEM, R12. -/
  | voidItem (mode : Byte) (number : Word16)
  /-- FORCE_DECISION, R58. -/
  | forceDecision (mode : Byte) (number : Word16) (action : Byte)
  /-- READ_ITEM, R10. -/
  | readItem (mode : Byte) (number : Word16)
  /-- READ_EVENTS, R183. -/
  | readEvents
  /-- CLEAR_EVENTS, R184. -/
  | clearEvents (marks : Word16)
  /-- SET_EVENTS, R184. -/
  | setEvents (marks : Word16)
  /-- SET_EVENT_ENABLES, R184. -/
  | setEventEnables (enables : Word16)
  /-- READ_COUNTS, R185. -/
  | readCounts (clearAfter : Byte)
  /-- CLEAR, R186. -/
  | clear
  /-- INFEED_SENSOR_FALLING_EDGE, R32: a low sample of the infeed sensor. -/
  | infeedSensorFallingEdge
  deriving DecidableEq, Repr

end Sys2Proof
end

