-- ==== Sys2Proof/Machine/State.lean ====
section
/-! DEFINITION. The state of the LV8, unit by unit as the manual's chapters own it, and its value after the reset pin. -/

namespace Sys2Proof.Machine

/-! ## Names the chapters share (coded values, 12.1) -/

/-- A plan bank (chapter 3). -/
inductive BankName where
  | a
  | b
  deriving DecidableEq, Repr

/-- The mode (R180). -/
inductive Mode where
  | run
  | trackOnly
  | halt
  deriving DecidableEq, Repr

/-- The action of a verdict, a force or a decision (R53). -/
inductive Action where
  | accept
  | reject
  | rework
  deriving DecidableEq, Repr

/-- The cause of a decision (R53). -/
inductive Cause where
  | forced
  | verdict
  | trackOnly
  | linkDown
  | stationFault
  | noVerdict
  deriving DecidableEq, Repr

/-- The phase of an item (1.8). -/
inductive Phase where
  | entered
  | complete
  | decided
  | firing
  | passed
  | void
  deriving DecidableEq, Repr

/-- The outcome of one station of one item (1.2); three carry the id of a frame. -/
inductive StationOutcome where
  | disabled
  | waiting
  | triggered
  | frame (id : FrameId)
  | damaged (id : FrameId)
  | lateFrame (id : FrameId)
  | missing
  | dropped
  | overrun
  | skipped
  deriving DecidableEq, Repr

/-- The gate outcome of an item (1.2). -/
inductive GateOutcome where
  | none
  | fired
  | merged
  | lateFire
  | missed
  | cut
  deriving DecidableEq, Repr

/-- The result codes of line port responses and office replies (12.1). -/
inductive Result where
  | ok
  | revised
  | full
  | invalid
  | noItem
  | void
  | tooLate
  | late
  | wrongMode
  | notEmpty
  | planInvalid
  | planPending
  | planInUse
  | noFrame
  | gone
  | empty
  deriving DecidableEq, Repr

/-! ## Position Unit (chapter 2) -/

/-- The counted direction (R22). -/
inductive Direction where
  | forward
  | backward
  deriving DecidableEq, Repr

/-- The Position Unit (R22 to R34, R37). `windowEnd` is the next multiple of 1,024 that ends a speed window (R28). -/
structure PositionUnit where
  position : Word32
  direction : Direction
  residue : Int
  heldA : Bool
  heldB : Bool
  time : Word32
  windowEnd : Word32
  windowAcc : Int
  speed : Nat
  sensor : Bool
  halt : Bool
  deriving DecidableEq, Repr

/-! ## Item Queue (chapter 1) -/

/-- A verdict (R53): action, fail mask (bit s for station s), revision count 0 to 255. -/
structure Verdict where
  action : Action
  failMask : Byte
  revision : Byte
  deriving DecidableEq, Repr

/-- A decision (R53). -/
structure Decision where
  action : Action
  cause : Cause
  deriving DecidableEq, Repr

/-- An item record (1.2). -/
structure Item where
  tag : Tag
  bank : BankName
  entry : Word32
  phase : Phase
  stations : Vector StationOutcome 8
  verdict : Option Verdict
  force : Option Action
  decision : Option Decision
  gateOutcome : GateOutcome
  deriving DecidableEq, Repr

/-- The item queue, oldest record first (R1), and the next-tag counter (R4). -/
structure ItemQueue where
  items : List Item
  nextTag : Tag
  deriving DecidableEq, Repr

/-! ## Plan Store (chapter 3) -/

/-- One station of a plan bank (R39). -/
structure StationPlan where
  enable : Bool
  strobe : Bool
  offset : Word24
  exposure : Byte
  deriving DecidableEq, Repr

/-- The fields of a plan bank (R39). -/
structure Plan where
  stations : Vector StationPlan 8
  decision : Word24
  rejectGate : Word24
  reworkGate : Word24
  width : Word16
  exit : Word24
  deriving DecidableEq, Repr

/-- A plan bank with its validity (R41) and its in-use count (R42). -/
structure PlanBank where
  plan : Plan
  valid : Bool
  inUse : Nat
  deriving DecidableEq, Repr

/-- The Plan Store (R40). -/
structure PlanStore where
  a : PlanBank
  b : PlanBank
  active : BankName
  pendingSwap : Bool
  deriving DecidableEq, Repr

/-! ## Trigger Unit (chapter 5) -/

/-- An entry of a trigger queue (R71). -/
structure TriggerEntry where
  tag : Tag
  bank : BankName
  strobe : Bool
  exposure : Byte
  deriving DecidableEq, Repr

/-- The train in a train slot (R71). `period` is the bit period in force when it started, in microseconds. -/
structure Train where
  word : Word24
  tag : Tag
  bank : BankName
  period : Nat
  start : Word32
  deriving DecidableEq, Repr

/-- An entry of a timeout list (R71). -/
structure TimeoutEntry where
  tag : Tag
  bank : BankName
  expiry : Word32
  deriving DecidableEq, Repr

/-- What one station of the Trigger Unit holds (R71); queue and timeouts oldest first. -/
structure StationTriggers where
  queue : List TriggerEntry
  slot : Option Train
  timeouts : List TimeoutEntry
  deriving DecidableEq, Repr

/-! ## Ingest Unit (chapter 6) -/

/-- What the parser keeps of the frame it has open (R89, R92, R95). -/
structure OpenFrame where
  frame : FrameId
  height : Nat
  expected : Nat
  received : Nat
  crc : Word32
  atHeader : StationOutcome
  deriving DecidableEq, Repr

/-- The state of a port's parser (R87); `collected` holds the bytes of the header or trailer that have come so far. -/
inductive Parser where
  | hunt
  | header (collected : List Byte)
  | pixels (open_ : OpenFrame)
  | trailer (open_ : OpenFrame) (collected : List Byte)
  | discard
  deriving DecidableEq, Repr

/-- The bytes of one frame in a port's FIFO. `marked`: its boundary mark has been placed (R93).
`cut`: its storing has been cut off by truncation (R98), so that none of its bytes is kept. -/
structure FifoFrame where
  frame : FrameId
  bytes : List Byte
  marked : Bool
  cut : Bool
  deriving DecidableEq, Repr

/-- One camera port: its parser and its FIFO, oldest frame first. -/
structure Port where
  parser : Parser
  fifo : List FifoFrame
  deriving DecidableEq, Repr

/-- The Ingest Unit: the ports, the port whose grant is in progress and the round-robin pointer (R96). -/
structure IngestUnit where
  ports : Vector Port 8
  grant : Option Station
  pointer : Station
  deriving DecidableEq, Repr

/-! ## Frame Store (chapter 7) -/

/-- The state of a frame record (7.2). -/
inductive FrameState where
  | free
  | filling
  | ready
  deriving DecidableEq, Repr

/-- The class of a frame record (7.3); `none` while it has no class. -/
inductive FrameClass where
  | none
  | deadline
  | background
  | done
  deriving DecidableEq, Repr

/-- The best copy sent (R111), coarsest first. -/
inductive BestCopy where
  | none
  | f4
  | f2
  | full
  deriving DecidableEq, Repr

/-- A frame record (7.2). `shedNote` is the scheduler's note that the frame has been counted as shed (R127). -/
structure FrameRecord where
  state : FrameState
  tag : Tag
  bank : BankName
  station : Station
  width : Nat
  height : Nat
  depth : Nat
  payload : Nat
  blocks : List Block
  damaged : Bool
  truncated : Bool
  shed : Bool
  cls : FrameClass
  best : BestCopy
  k0 : Bool
  k1 : Bool
  openTx : Nat
  shedNote : Bool
  deriving DecidableEq, Repr

/-- The Frame Store. `mem` holds the bytes of the blocks: byte o of block n at address 65,536 n + o. -/
structure FrameStore where
  freeList : List Block
  frames : Vector FrameRecord 1024
  reclaim : List FrameId
  mem : List Host.Cell
  deriving DecidableEq, Repr

/-! ## Uplink Scheduler (chapter 8) -/

/-- A rectangle in pixels (R137). -/
structure Rect where
  x : Nat
  y : Nat
  w : Nat
  h : Nat
  deriving DecidableEq, Repr

/-- The open deadline transmission (R128). `last`: its LAST segment is on the lane. `abort`: marked for abort (R132). -/
structure DeadlineTx where
  frame : FrameId
  factor : Nat
  deadline : Int
  slack : Int
  offset : Nat
  last : Bool
  abort : Bool
  deriving DecidableEq, Repr

/-- The open region transmission (R139). -/
structure RegionTx where
  number : Byte
  frame : FrameId
  rect : Rect
  factor : Nat
  offset : Nat
  last : Bool
  deriving DecidableEq, Repr

/-- The open background transmission (R136). -/
structure BackgroundTx where
  frame : FrameId
  offset : Nat
  last : Bool
  abort : Bool
  deriving DecidableEq, Repr

/-- An entry of the region queue (R137). -/
structure RegionEntry where
  number : Byte
  frame : FrameId
  tag : Tag
  station : Station
  rect : Rect
  factor : Nat
  deriving DecidableEq, Repr

/-- The three kinds of transmission, in the order in which owed ABORT segments go (R124). -/
inductive TxKind where
  | deadline
  | region
  | background
  deriving DecidableEq, Repr

/-- The reason of an ABORT segment (R123). -/
inductive AbortReason where
  | void
  | clear
  | gone
  deriving DecidableEq, Repr

/-- An ABORT segment owed (R132, R135); `number` is the region's request number, 0 for a frame copy. -/
structure Abort where
  kind : TxKind
  frame : FrameId
  number : Byte
  reason : AbortReason
  deriving DecidableEq, Repr

/-- A reply (R168). -/
structure Reply where
  kind : Byte
  number : Byte
  result : Result
  body : List Byte
  deriving DecidableEq, Repr

/-- The three messages that share the layout of 12.5. -/
inductive ReportKind where
  | decision
  | retire
  | view
  deriving DecidableEq, Repr

/-- A station entry: the outcome and the present flag (R10, 12.1). -/
structure StationEntry where
  outcome : StationOutcome
  present : Bool
  deriving DecidableEq, Repr

/-- A decision report (R67), a retire report (R17) or an item view (R10), with the fields of 12.5. -/
structure Report where
  kind : ReportKind
  tag : Tag
  bank : BankName
  entry : Word32
  phase : Phase
  verdict : Option Verdict
  force : Option Action
  decision : Option Decision
  gateOutcome : GateOutcome
  autoKept : Bool
  depth : Nat
  stations : Vector StationEntry 8
  position : Word32
  toPoint : Nat
  time : Word32
  speed : Nat
  deriving DecidableEq, Repr

/-- The kinds of segment, in the order of 12.4. -/
inductive SegmentKind where
  | idle
  | frameOpen
  | frameData
  | regionOpen
  | regionData
  | abort
  | report
  | reply
  deriving DecidableEq, Repr

/-- A segment of the lane: the fields of its header that its kind names (12.4) and its payload. -/
structure Segment where
  kind : SegmentKind
  last : Bool
  pendingFault : Bool
  offset : Nat
  frame : Option FrameId
  number : Byte
  payload : List Byte
  deriving DecidableEq, Repr

/-- The Uplink Scheduler; every queue oldest first. `lane` is the segment now on the lane (R123). -/
structure Uplink where
  deadline : Option DeadlineTx
  region : Option RegionTx
  background : Option BackgroundTx
  clearAborts : List Abort
  replies : List Reply
  reports : List Report
  regions : List RegionEntry
  bgOrder : List FrameId
  lane : Segment
  deriving DecidableEq, Repr

/-! ## Gate Unit (chapter 9) -/

/-- The status of an entry of a fire list (R146). -/
inductive FireStatus where
  | scheduled
  | held
  | on
  deriving DecidableEq, Repr

/-- An entry of a fire list (R146). -/
structure Fire where
  tag : Tag
  start : Word32
  stop : Word32
  status : FireStatus
  deriving DecidableEq, Repr

/-- The output state of a gate (R146); the recovery expiry has a meaning only in RECOVERY. -/
inductive GateOutput where
  | idle
  | on
  | recovery (expiry : Word32)
  deriving DecidableEq, Repr

/-- One gate: output state and fire list (R146). -/
structure GateState where
  output : GateOutput
  fires : List Fire
  deriving DecidableEq, Repr

/-- The lamp state (R157). -/
inductive LampState where
  | off
  | slow
  | fast
  | on
  deriving DecidableEq, Repr

/-- The inspection lamp (R157); `toggleAt` has a meaning only in SLOW and FAST. -/
structure Lamp where
  state : LampState
  output : Bool
  toggleAt : Word32
  deriving DecidableEq, Repr

/-- The Gate Unit (R146, R157). -/
structure GateUnit where
  reject : GateState
  rework : GateState
  lamp : Lamp
  deriving DecidableEq, Repr

/-! ## Fibre Link (chapter 10) -/

/-- The state of the downlink receiver (R160); `collected` holds the bytes of the block that have come so far. -/
inductive Receiver where
  | hunt
  | collect (collected : List Byte)
  deriving DecidableEq, Repr

/-- The link state (10.2). -/
inductive LinkState where
  | aligning
  | up
  deriving DecidableEq, Repr

/-- The Fibre Link (R160 to R166). `lossTimer` is none while the loss timer is stopped. -/
structure FibreLink where
  receiver : Receiver
  state : LinkState
  goodRun : Nat
  lossTimer : Option Word32
  pendingFault : Bool
  deriving DecidableEq, Repr

/-! ## Line Port (chapter 11) -/

/-- The direction polarity (R23). -/
inductive Polarity where
  | normal
  | inverted
  deriving DecidableEq, Repr

/-- The entry source (R5, R7). -/
inductive EntrySource where
  | sensor
  | command
  deriving DecidableEq, Repr

/-- The auto-keep cause (R54). -/
inductive AutoKeepCause where
  | none
  | onReject
  | onDefault
  | onFault
  deriving DecidableEq, Repr

/-- The halt mode (R153). -/
inductive HaltMode where
  | cut
  | hold
  deriving DecidableEq, Repr

/-- The nineteen settings of R182, in the order of its table. -/
structure Settings where
  prescaler : Nat
  polarity : Polarity
  entrySource : EntrySource
  minPitch : Nat
  laneRate : Nat
  allowance : Nat
  maxFactor : Nat
  cameraTimeout : Nat
  bitPeriod : Nat
  defaultTrackOnly : Action
  defaultLinkDown : Action
  defaultStationFault : Action
  defaultNoVerdict : Action
  autoKeep : AutoKeepCause
  haltMode : HaltMode
  rejectGap : Nat
  reworkGap : Nat
  watermark : Nat
  lossTimeout : Nat
  deriving DecidableEq, Repr

/-- The request and response buffers (R176 to R178): nothing yet taken; BUSY, with the owner's answer not yet placed;
READY, with the response held. READY and BUSY are never both set. -/
inductive PortBuffer where
  | vacant
  | busy (answer : List Byte)
  | ready (response : List Byte)
  deriving DecidableEq, Repr

/-- The transaction on the line port's bus (R175). `idle`: none is in progress, be it that chip select is released or that the
reset pin has lost the one that was. `begun`: chip select is asserted and no byte has come. `writing` holds the request buffer.
`reading`: the first byte was 0, and the status byte is sent next. `sending`: it has been sent; `zeros` says that it showed BUSY,
and `rest` is what is left of the response. -/
inductive BusState where
  | idle
  | begun
  | writing (collected : List Byte)
  | reading
  | sending (zeros : Bool) (rest : List Byte)
  deriving DecidableEq, Repr

/-- The Line Port (R175 to R187). Bit 15 of `flags` and `enables` is the first event of R183's list (12.7).
`spiOut` holds the bytes the port sent in the last transaction, or has sent so far in the one in progress. -/
structure LinePort where
  mode : Mode
  settings : Settings
  flags : Word16
  enables : Word16
  counts : Vector Word16 14
  buffer : PortBuffer
  refused : Bool
  resetSeen : Bool
  bus : BusState
  spiOut : List Byte
  deriving DecidableEq, Repr

/-! ## The machine -/

/-- The state of the LV8. `freeCtr` (the model's own) numbers the free values drawn so far (log 6);
`pending` (the model's own) holds the commands that wait, first in, first out (log 1). -/
structure State where
  pos : PositionUnit
  queue : ItemQueue
  plans : PlanStore
  trig : Vector StationTriggers 8
  ingest : IngestUnit
  store : FrameStore
  uplink : Uplink
  gates : GateUnit
  link : FibreLink
  port : LinePort
  freeCtr : Nat
  pending : List Instr
  deriving DecidableEq, Repr

/-- No command of the LV8 stops the block: every fault of the manual is an outcome, an event or a count of the state. -/
inductive Fault where
  deriving DecidableEq, Repr

/-- Why a command has no meaning. -/
inductive Refusal where
  /-- Raised by an arm of `exec` whose command has no meaning yet (safe); no arm raises it. -/
  | notModelled (mnemonic : String)
  deriving DecidableEq, Repr

/-! ## After the reset pin -/

/-- A frame record that is FREE (R106): marks and flags clear, class none, best copy NONE, no open transmission.
The fields that carry no meaning while FREE are 0: DESIGN CHOICE, log 16. -/
def FrameRecord.freed : FrameRecord :=
  { state := .free, tag := 0, bank := .a, station := 0, width := 0, height := 0, depth := 0, payload := 0,
    blocks := [], damaged := false, truncated := false, shed := false, cls := .none, best := .none,
    k0 := false, k1 := false, openTx := 0, shedNote := false }

/-- The free list after the reset pin and CLEAR: 0 to 8,191 in ascending order (R121, R122). -/
def fullFreeList : List Block :=
  (List.range' 0 8192).map (Fin.ofNat 8192)

/-- The contents of both plan banks after the reset pin (R51). -/
def Plan.reset : Plan :=
  { stations := Vector.replicate 8 { enable := false, strobe := false, offset := 0, exposure := 0 },
    decision := 0, rejectGate := 0, reworkGate := 0, width := 1, exit := 0 }

/-- The settings after the reset pin (R182). -/
def Settings.reset : Settings :=
  { prescaler := 1, polarity := .normal, entrySource := .sensor, minPitch := 1000, laneRate := 1200, allowance := 2000,
    maxFactor := 4, cameraTimeout := 50000, bitPeriod := 2, defaultTrackOnly := .reject, defaultLinkDown := .reject,
    defaultStationFault := .reject, defaultNoVerdict := .reject, autoKeep := .none, haltMode := .cut,
    rejectGap := 0, reworkGap := 0, watermark := 256, lossTimeout := 1000 }

/-- The IDLE segment on the lane after the reset pin (R145, R172): link state ALIGNING, free count 8,192 (log 22). -/
def Segment.reset : Segment :=
  { kind := .idle, last := false, pendingFault := false, offset := 0, frame := none, number := 0, payload := [0, 0x20, 0] }

/-- A station of the Trigger Unit with nothing in its three places (R85). -/
def StationTriggers.clear : StationTriggers :=
  { queue := [], slot := none, timeouts := [] }

/-- A camera port with its parser in HUNT and its FIFO empty (R103). -/
def Port.clear : Port :=
  { parser := .hunt, fifo := [] }

/-- The machine right after the reset pin (R187 and the rules it gathers: R19, R37, R51, R54, R85, R103, R121, R145,
R159, R172). The input levels are low: DESIGN CHOICE, log 4. -/
def State.reset : State :=
  { pos := { position := 0, direction := .forward, residue := 0, heldA := false, heldB := false, time := 0,
             windowEnd := 1024, windowAcc := 0, speed := 0, sensor := false, halt := false },
    queue := { items := [], nextTag := 0 },
    plans := { a := { plan := Plan.reset, valid := false, inUse := 0 },
               b := { plan := Plan.reset, valid := false, inUse := 0 }, active := .a, pendingSwap := false },
    trig := Vector.replicate 8 StationTriggers.clear,
    ingest := { ports := Vector.replicate 8 Port.clear, grant := none, pointer := 0 },
    store := { freeList := fullFreeList, frames := Vector.replicate 1024 FrameRecord.freed, reclaim := [], mem := [] },
    uplink := { deadline := none, region := none, background := none, clearAborts := [], replies := [], reports := [],
                regions := [], bgOrder := [], lane := Segment.reset },
    gates := { reject := { output := .idle, fires := [] }, rework := { output := .idle, fires := [] },
               lamp := { state := .off, output := false, toggleAt := 0 } },
    link := { receiver := .hunt, state := .aligning, goodRun := 0, lossTimer := none, pendingFault := false },
    port := { mode := .halt, settings := Settings.reset, flags := 0, enables := 0, counts := Vector.replicate 14 0,
              buffer := .vacant, refused := false, resetSeen := true, bus := .idle, spiOut := [] },
    freeCtr := 0,
    pending := [] }

end Sys2Proof.Machine
end

