-- ==== Sys2Proof/Machine/Flags.lean ====
section
/-! DEFINITION. Event flags, attention, counts, the status byte and the lamp: the flags and indicators of the LV8
(R157, R178, R183 to R185). -/

namespace Sys2Proof.Machine

/-- The sixteen events, in the order of R183. -/
inductive Event where
  | queueFull
  | entryRefused
  | orphanFrame
  | duplicateFrame
  | headerFault
  | stationFault
  | storePressure
  | defaultDecision
  | lateFire
  | fireMissed
  | gateCut
  | linkDown
  | linkUp
  | reportLoss
  | planSwapped
  | haltInput
  deriving DecidableEq, Repr

/-- The place of an event in R183's list, from 0. -/
def Event.place : Event → Nat
  | .queueFull => 0
  | .entryRefused => 1
  | .orphanFrame => 2
  | .duplicateFrame => 3
  | .headerFault => 4
  | .stationFault => 5
  | .storePressure => 6
  | .defaultDecision => 7
  | .lateFire => 8
  | .fireMissed => 9
  | .gateCut => 10
  | .linkDown => 11
  | .linkUp => 12
  | .reportLoss => 13
  | .planSwapped => 14
  | .haltInput => 15

/-- The mark of an event in a 16-bit word: the first event of R183's list is bit 15 (12.7). -/
def Event.mark (e : Event) : Word16 :=
  0x8000#16 >>> e.place

/-- Whether an event's flag is set (R183). -/
def flagSet (e : Event) (s : State) : Bool :=
  (s.port.flags &&& e.mark) != 0

/-- A block raises an event: its flag is then set, and a set flag stays set (R183). -/
def raise (e : Event) (s : State) : State :=
  { s with port.flags := s.port.flags ||| e.mark }

/-- The fourteen counts, in the order of R185's table. -/
inductive Count where
  | untrackedItems
  | refusedEntries
  | orphanFrames
  | duplicateFrames
  | headerFaults
  | stationFaults
  | evictedFrames
  | shedFrames
  | defaultDecisions
  | lateFires
  | missedFires
  | gateCuts
  | lostReports
  | badDownlinkBlocks
  deriving DecidableEq, Repr

/-- The place of a count in R185's table, from 0. -/
def Count.place : Count → Fin 14
  | .untrackedItems => 0
  | .refusedEntries => 1
  | .orphanFrames => 2
  | .duplicateFrames => 3
  | .headerFaults => 4
  | .stationFaults => 5
  | .evictedFrames => 6
  | .shedFrames => 7
  | .defaultDecisions => 8
  | .lateFires => 9
  | .missedFires => 10
  | .gateCuts => 11
  | .lostReports => 12
  | .badDownlinkBlocks => 13

/-- The value of a count (R185). -/
def countOf (c : Count) (s : State) : Word16 :=
  s.port.counts[c.place]

/-- One more of a 16-bit count, which stops at 65,535 (R185). -/
def countUp (v : Word16) : Word16 :=
  if v = 0xFFFF#16 then v else v + 1

/-- A block increments a count by 1 (R185). -/
def bump (c : Count) (s : State) : State :=
  { s with port.counts := s.port.counts.set c.place.val (countUp s.port.counts[c.place]) c.place.isLt }

/-- The attention output: high while at least one flag is set whose enable is also set (R184). -/
def attention (s : State) : Bool :=
  (s.port.flags &&& s.port.enables) != 0

/-- BUSY: a request has been taken and its response is not yet placed (R176, R178). -/
def busy (s : State) : Bool :=
  match s.port.buffer with
  | .busy _ => true
  | .vacant => false
  | .ready _ => false

/-- READY: the response buffer holds a response (R178). -/
def ready (s : State) : Bool :=
  match s.port.buffer with
  | .ready _ => true
  | .vacant => false
  | .busy _ => false

/-- A bit of the status byte. -/
def statusBit (set : Bool) (bit : Nat) : Byte :=
  if set then 1#8 <<< bit else 0

/-- The status byte (R178): bits 7 to 3 are READY, BUSY, REFUSED, RESET_SEEN and ATTENTION, bits 2 to 0 zero (12.7). -/
def statusByte (s : State) : Byte :=
  statusBit (ready s) 7 ||| statusBit (busy s) 6 ||| statusBit s.port.refused 5 ||| statusBit s.port.resetSeen 4
    ||| statusBit (attention s) 3

/-- The lamp state that the mode and the link state call for (the table of R157). -/
def lampFor : Mode → LinkState → LampState
  | .halt, _ => .off
  | .trackOnly, _ => .slow
  | .run, .aligning => .fast
  | .run, .up => .on

/-- Half a blink period in microseconds: 500 ms in SLOW, 125 ms in FAST (R157). -/
def halfBlink : LampState → Nat
  | .slow => 500000
  | .fast => 125000
  | .off => 0
  | .on => 0

/-- Entering a lamp state: in SLOW and FAST the output turns on and a blink period begins (R157). The toggle time, which has
no meaning in OFF and ON, is 0 there: DESIGN CHOICE (log 21). -/
def Lamp.enter (l : LampState) (time : Word32) : Lamp :=
  match l with
  | .off => { state := .off, output := false, toggleAt := 0 }
  | .on => { state := .on, output := true, toggleAt := 0 }
  | .slow => { state := .slow, output := true, toggleAt := time + BitVec.ofNat 32 (halfBlink .slow) }
  | .fast => { state := .fast, output := true, toggleAt := time + BitVec.ofNat 32 (halfBlink .fast) }

/-- The lamp follows a change of the mode or of the link state (R157); a change that leaves the lamp state leaves the lamp. -/
def followLamp (s : State) : State :=
  if lampFor s.port.mode s.link.state = s.gates.lamp.state then s
  else { s with gates.lamp := Lamp.enter (lampFor s.port.mode s.link.state) s.pos.time }

end Sys2Proof.Machine
end

