-- ==== Sys2Proof/Machine/Wire.lean ====
section
/-! DEFINITION. The layouts and check computations of chapter 12 (Wire Formats): coded values, multi-byte numbers,
the trigger word, the CRCs, reports, frame descriptors, segments, setting and plan bodies. -/

namespace Sys2Proof.Machine

/-! ## Multi-byte numbers, most significant byte first -/

/-- One byte of a number. -/
def byte1 (n : Nat) : List Byte :=
  [BitVec.ofNat 8 n]

/-- A two-byte number, most significant byte first. -/
def bytes2 (n : Nat) : List Byte :=
  [BitVec.ofNat 8 (n / 256), BitVec.ofNat 8 n]

/-- A three-byte number, most significant byte first. -/
def bytes3 (n : Nat) : List Byte :=
  [BitVec.ofNat 8 (n / 65536), BitVec.ofNat 8 (n / 256), BitVec.ofNat 8 n]

/-- A four-byte number, most significant byte first. -/
def bytes4 (n : Nat) : List Byte :=
  [BitVec.ofNat 8 (n / 16777216), BitVec.ofNat 8 (n / 65536), BitVec.ofNat 8 (n / 256), BitVec.ofNat 8 n]

/-- A signed number in four bytes of two's complement. -/
def signed4 (z : Int) : List Byte :=
  bytes4 (BitVec.ofInt 32 z).toNat

/-- A yes or no in one byte: 1 for yes, 0 for no (12.1). -/
def flagByte (b : Bool) : Byte :=
  if b then 1 else 0

/-- A run of zero bytes. -/
def zeros (n : Nat) : List Byte :=
  List.replicate n 0

/-! ## Coded values (12.1): the place of a value in its list, counting from 0 -/

def Action.code : Action → Byte
  | .accept => 0
  | .reject => 1
  | .rework => 2

def Cause.code : Cause → Byte
  | .forced => 0
  | .verdict => 1
  | .trackOnly => 2
  | .linkDown => 3
  | .stationFault => 4
  | .noVerdict => 5

def Phase.code : Phase → Byte
  | .entered => 0
  | .complete => 1
  | .decided => 2
  | .firing => 3
  | .passed => 4
  | .void => 5

def StationOutcome.code : StationOutcome → Byte
  | .disabled => 0
  | .waiting => 1
  | .triggered => 2
  | .frame _ => 3
  | .damaged _ => 4
  | .lateFrame _ => 5
  | .missing => 6
  | .dropped => 7
  | .overrun => 8
  | .skipped => 9

def GateOutcome.code : GateOutcome → Byte
  | .none => 0
  | .fired => 1
  | .merged => 2
  | .lateFire => 3
  | .missed => 4
  | .cut => 5

def BankName.code : BankName → Byte
  | .a => 0
  | .b => 1

def Mode.code : Mode → Byte
  | .run => 0
  | .trackOnly => 1
  | .halt => 2

def LinkState.code : LinkState → Byte
  | .aligning => 0
  | .up => 1

def FrameState.code : FrameState → Byte
  | .free => 0
  | .filling => 1
  | .ready => 2

def FrameClass.code : FrameClass → Byte
  | .none => 0
  | .deadline => 1
  | .background => 2
  | .done => 3

def BestCopy.code : BestCopy → Byte
  | .none => 0
  | .f4 => 1
  | .f2 => 2
  | .full => 3

def Result.code : Result → Byte
  | .ok => 0
  | .revised => 1
  | .full => 2
  | .invalid => 3
  | .noItem => 4
  | .void => 5
  | .tooLate => 6
  | .late => 7
  | .wrongMode => 8
  | .notEmpty => 9
  | .planInvalid => 10
  | .planPending => 11
  | .planInUse => 12
  | .noFrame => 13
  | .gone => 14
  | .empty => 15

def AbortReason.code : AbortReason → Byte
  | .void => 0
  | .clear => 1
  | .gone => 2

def TxKind.code : TxKind → Byte
  | .deadline => 0
  | .background => 1
  | .region => 2

def Polarity.code : Polarity → Byte
  | .normal => 0
  | .inverted => 1

def EntrySource.code : EntrySource → Byte
  | .sensor => 0
  | .command => 1

def HaltMode.code : HaltMode → Byte
  | .cut => 0
  | .hold => 1

def AutoKeepCause.code : AutoKeepCause → Byte
  | .none => 0
  | .onReject => 1
  | .onDefault => 2
  | .onFault => 3

def SegmentKind.code : SegmentKind → Byte
  | .idle => 0
  | .frameOpen => 1
  | .frameData => 2
  | .regionOpen => 3
  | .regionData => 4
  | .abort => 5
  | .report => 6
  | .reply => 7

def ReportKind.code : ReportKind → Byte
  | .decision => 0
  | .retire => 1
  | .view => 2

/-- The frame id that an outcome carries (1.2). -/
def StationOutcome.frameId? : StationOutcome → Option FrameId
  | .frame id => some id
  | .damaged id => some id
  | .lateFrame id => some id
  | .disabled => none
  | .waiting => none
  | .triggered => none
  | .missing => none
  | .dropped => none
  | .overrun => none
  | .skipped => none

/-! ## Optional fields: a presence byte, then the field, zeros when absent -/

def verdictBytes : Option Verdict → List Byte
  | some v => [1, v.action.code, v.failMask, v.revision]
  | none => [0, 0, 0, 0]

def actionBytes : Option Action → List Byte
  | some a => [1, a.code]
  | none => [0, 0]

def decisionBytes : Option Decision → List Byte
  | some d => [1, d.action.code, d.cause.code]
  | none => [0, 0, 0]

/-! ## The trigger word (12.2) -/

/-- The check of a trigger word: the exclusive-or of its five upper 4-bit groups (R189). -/
def triggerCheck (w : Word24) : BitVec 4 :=
  w.extractLsb' 20 4 ^^^ w.extractLsb' 16 4 ^^^ w.extractLsb' 12 4 ^^^ w.extractLsb' 8 4 ^^^ w.extractLsb' 4 4

/-- A bank as the bit of the trigger word, 0 for A. -/
def BankName.bit : BankName → BitVec 1
  | .a => 0
  | .b => 1

/-- The trigger word before its check is filled in: tag, bank, strobe request and exposure code above four zero bits (12.2). -/
def triggerWordBody (tag : Tag) (bank : BankName) (strobe : Bool) (exposure : Byte) : Word24 :=
  BitVec.ofNat 10 tag.val ++ bank.bit ++ BitVec.ofBool strobe ++ exposure ++ 0#4

/-- The trigger word (R74, R189). -/
def triggerWord (tag : Tag) (bank : BankName) (strobe : Bool) (exposure : Byte) : Word24 :=
  triggerWordBody tag bank strobe exposure ||| (triggerCheck (triggerWordBody tag bank strobe exposure)).setWidth 24

/-- The tag of an echoed trigger word: bits 23 to 14. -/
def wordTag (w : Word24) : Tag :=
  (w.extractLsb' 14 10).toFin

/-- The bank of an echoed trigger word: bit 13, 0 for A. -/
def wordBank (w : Word24) : BankName :=
  if w.getLsbD 13 then .b else .a

/-- Whether the echoed check agrees with the recomputed one (R88 check 1, R189). -/
def checkAgrees (w : Word24) : Bool :=
  w.extractLsb' 0 4 == triggerCheck w

/-- The level of a trigger line carrying a train (R75): `eighths` counts eighths of a bit period from the train's start.
A period opens high; a 1 stays high for six eighths, a 0 for three; the two idle periods are low. -/
def Train.level (t : Train) (eighths : Nat) : Bool :=
  decide (eighths / 8 < 24) && decide (eighths % 8 < if t.word.getLsbD (23 - eighths / 8) then 6 else 3)

/-! ## Check computations -/

/-- One bit of a CRC register of width `n + 1`, most significant bit first. -/
def crcBit {n : Nat} (poly : BitVec (n + 1)) (reg : BitVec (n + 1)) (bit : Bool) : BitVec (n + 1) :=
  if reg.getLsbD n ^^ bit then (reg <<< 1) ^^^ poly else reg <<< 1

/-- The eight bits of a byte into a CRC register, most significant bit first. -/
def crcByte {n : Nat} (poly : BitVec (n + 1)) (reg : BitVec (n + 1)) (b : Byte) : BitVec (n + 1) :=
  [7, 6, 5, 4, 3, 2, 1, 0].foldl (fun r i => crcBit poly r (b.getLsbD i)) reg

/-- The start of a frame's CRC-32: all ones (R190). -/
def crc32Start : Word32 := 0xFFFFFFFF#32

/-- One pixel byte into a frame's CRC-32: polynomial 04C11DB7 (R190). -/
def crc32Byte (reg : Word32) (b : Byte) : Word32 :=
  crcByte (n := 31) 0x04C11DB7#32 reg b

/-- The CRC-32 of a run of bytes (R190). -/
def crc32 (bs : List Byte) : Word32 :=
  bs.foldl crc32Byte crc32Start

/-- The CRC-16 of a run of bytes: x^16 + x^12 + x^5 + 1, starting at all ones (R191). -/
def crc16 (bs : List Byte) : Word16 :=
  bs.foldl (crcByte (n := 15) 0x1021#16) 0xFFFF#16

/-! ## Reports and the item view (12.5) -/

/-- A station entry, 3 bytes: the outcome, then the present flag as the top bit over the frame id (12.1). -/
def StationEntry.bytes (e : StationEntry) : List Byte :=
  match e.outcome.frameId? with
  | some id => e.outcome.code :: bytes2 ((if e.present then 32768 else 0) + id.val)
  | none => [e.outcome.code, 0, 0]

/-- The 54-byte layout of a decision report, a retire report and an item view; bytes not used by a kind are zero (12.5). -/
def Report.bytes (r : Report) : List Byte :=
  [r.kind.code] ++ bytes2 r.tag.val ++ [r.bank.code] ++ bytes4 r.entry.toNat
    ++ [if r.kind = .decision then 0 else r.phase.code]
    ++ verdictBytes r.verdict ++ actionBytes r.force ++ decisionBytes r.decision
    ++ [if r.kind = .decision then 0 else r.gateOutcome.code]
    ++ [match r.kind with | .decision => flagByte r.autoKept | .view => BitVec.ofNat 8 r.depth | .retire => 0]
    ++ r.stations.toList.flatMap StationEntry.bytes
    ++ (match r.kind with | .view => bytes4 r.toPoint | .decision => bytes4 r.position.toNat | .retire => bytes4 r.position.toNat)
    ++ (match r.kind with | .view => zeros 4 | .decision => bytes4 r.time.toNat | .retire => bytes4 r.time.toNat)
    ++ (match r.kind with | .decision => bytes2 r.speed | .view => zeros 2 | .retire => zeros 2)

/-! ## Uplink segments (12.4) -/

/-- The bytes of a segment on the lane: the 32-byte header, then the payload. -/
def Segment.bytes (g : Segment) : List Byte :=
  [g.kind.code, (if g.last then 128 else 0) ||| (if g.pendingFault then 64 else 0)]
    ++ bytes2 g.payload.length ++ bytes4 g.offset ++ bytes2 ((g.frame.map Fin.val).getD 0) ++ [g.number] ++ zeros 21 ++ g.payload

/-- The payload of an ABORT segment: what (0 a frame copy, 1 a region), frame id, request number, reason. -/
def Abort.bytes (a : Abort) : List Byte :=
  [if a.kind = .region then 1 else 0] ++ bytes2 a.frame.val ++ [a.number, a.reason.code]

/-- The payload of a REPLY segment: request kind, request number, result code, body. -/
def Reply.bytes (r : Reply) : List Byte :=
  [r.kind, r.number, r.result.code] ++ r.body

/-- What a frame descriptor says beyond the frame's record (12.4). -/
structure DescriptorTail where
  kind : TxKind
  factor : Nat
  width : Nat
  height : Nat
  payload : Nat
  segments : Nat
  deadline : Int
  slack : Int
  deriving DecidableEq, Repr

/-- The 64-byte frame descriptor (12.4). -/
def descriptor (id : FrameId) (r : FrameRecord) (d : DescriptorTail) : List Byte :=
  bytes2 id.val ++ bytes2 r.tag.val ++ [r.bank.code] ++ byte1 r.station.val
    ++ bytes2 r.width ++ bytes2 r.height ++ byte1 r.depth
    ++ [(if r.damaged then 4 else 0) ||| (if r.truncated then 2 else 0) ||| (if r.shed then 1 else 0)]
    ++ bytes4 r.payload ++ [r.cls.code, r.best.code] ++ [d.kind.code] ++ byte1 d.factor
    ++ bytes2 d.width ++ bytes2 d.height ++ bytes4 d.payload ++ bytes2 d.segments
    ++ signed4 d.deadline ++ signed4 d.slack ++ zeros 26

/-! ## Bodies of the line port (12.7, 12.8) -/

/-- The value of a setting as CONFIGURE and READ CONFIGURATION carry it, by its place in the table of R182. -/
def Settings.values (c : Settings) : List Nat :=
  [c.prescaler, c.polarity.code.toNat, c.entrySource.code.toNat, c.minPitch, c.laneRate, c.allowance, c.maxFactor,
   c.cameraTimeout, c.bitPeriod, c.defaultTrackOnly.code.toNat, c.defaultLinkDown.code.toNat,
   c.defaultStationFault.code.toNat, c.defaultNoVerdict.code.toNat, c.autoKeep.code.toNat, c.haltMode.code.toNat,
   c.rejectGap, c.reworkGap, c.watermark, c.lossTimeout]

/-- The nineteen settings in setting-number order, 3 bytes each (12.8). -/
def Settings.bytes (c : Settings) : List Byte :=
  c.values.flatMap bytes3

/-- A station of a plan in the layout of the WRITE PLAN payload. -/
def StationPlan.bytes (p : StationPlan) : List Byte :=
  [(if p.enable then 1 else 0) ||| (if p.strobe then 2 else 0)] ++ bytes3 p.offset.toNat ++ [p.exposure]

/-- A bank's fields in the layout of the WRITE PLAN payload, 55 bytes (12.8). -/
def Plan.bytes (bank : BankName) (p : Plan) : List Byte :=
  [bank.code] ++ p.stations.toList.flatMap StationPlan.bytes ++ bytes3 p.decision.toNat ++ bytes3 p.rejectGate.toNat
    ++ bytes3 p.reworkGate.toNat ++ bytes2 p.width.toNat ++ bytes3 p.exit.toNat


end Sys2Proof.Machine
end

