-- ==== Sys2Proof/Decode.lean ====
section
/-! DEFINITION. Reading the wire formats of chapter 12: the word of an opcode-table row, a downlink block, a line port
transaction and a camera header as the command each stands for, and the writers of the same layouts. -/

namespace Sys2Proof

/-- The command that a word spells by the table's bits. No row of spec/opcode_table.json gives bits, so no word spells one. -/
def decodeTableWord (_nbits _w : Nat) : Option Instr :=
  none

/-! ## Numbers out of bytes, most significant byte first -/

/-- Two bytes as a number. -/
def word16 (a b : Byte) : Word16 := a ++ b

/-- Three bytes as a number. -/
def word24 (a b c : Byte) : Word24 := a ++ b ++ c

/-- Four bytes as a number. -/
def word32 (a b c d : Byte) : Word32 := a ++ b ++ c ++ d

/-- The byte in place `i` of a run of bytes. -/
def at_ (bs : List Byte) (i : Nat) : Byte :=
  bs.getD i 0

/-- The two-byte number at place `i`. -/
def at2 (bs : List Byte) (i : Nat) : Word16 :=
  word16 (at_ bs i) (at_ bs (i + 1))

/-- The three-byte number at place `i`. -/
def at3 (bs : List Byte) (i : Nat) : Word24 :=
  word24 (at_ bs i) (at_ bs (i + 1)) (at_ bs (i + 2))

/-- The four-byte number at place `i`. -/
def at4 (bs : List Byte) (i : Nat) : Word32 :=
  word32 (at_ bs i) (at_ bs (i + 1)) (at_ bs (i + 2)) (at_ bs (i + 3))

/-! ## Downlink blocks (12.6) -/

/-- The request that a good block's bytes carry, by its request kind (R167, 12.6). -/
def officeRequest (bs : List Byte) : OfficeRequest :=
  match (at_ bs 0).toNat with
  | 0 => .idle (at_ bs 1)
  | 1 => .verdict (at_ bs 1) (at_ bs 2) (at2 bs 3) (at_ bs 5) (at_ bs 6)
  | 2 => .keep (at_ bs 1) (at_ bs 2) (at2 bs 3) (at2 bs 5)
  | 3 => .release (at_ bs 1) (at_ bs 2) (at2 bs 3) (at2 bs 5)
  | 4 => .fetchRegion (at_ bs 1) (at2 bs 2) (at2 bs 4) (at2 bs 6) (at2 bs 8) (at2 bs 10) (at2 bs 12) (at_ bs 14)
  | 5 => .queryItem (at_ bs 1) (at_ bs 2) (at2 bs 3)
  | 6 => .queryStatus (at_ bs 1)
  | _ => .unknown (at_ bs 0) (at_ bs 1)

/-- The command that a good block with this request is: the row of the table with its name. -/
def OfficeRequest.command : OfficeRequest → Instr
  | .idle n => .idleBlock n
  | .verdict n mode address action mask => .verdict n mode address action mask
  | .keep n target frame tag => .keep (.office n) target frame tag
  | .release n target frame tag => .release (.office n) target frame tag
  | .fetchRegion n frame tag x y w h factor => .fetchRegion n frame tag x y w h factor
  | .queryItem n mode address => .queryItem n mode address
  | .queryStatus n => .queryStatus n
  | .unknown kind n => .unknownRequestKind kind n

/-- The check of an arrived block agrees (R161, R191): the CRC-16 over the first 62 bytes equals the last two. -/
def blockChecks (bs : List Byte) : Bool :=
  Machine.crc16 (bs.take 62) == at2 bs 62

/-- The command that a run of collected bytes stands for (R160, R161): fewer than 64 were cut short by a block start,
and 64 are good when the CRC-16 over the first 62 equals the last two. -/
def blockCommand (bs : List Byte) : Instr :=
  if bs.length < 64 then .badBlock .cutShort
  else if blockChecks bs then (officeRequest bs).command
  else .badBlock .checkFails

/-- A number as its two bytes, most significant first. -/
def split16 (w : Word16) : List Byte :=
  [w.extractLsb' 8 8, w.extractLsb' 0 8]

/-- A number as its three bytes, most significant first. -/
def split24 (w : Word24) : List Byte :=
  [w.extractLsb' 16 8, w.extractLsb' 8 8, w.extractLsb' 0 8]

/-- Bytes 0 to 61 of a block before the zeros that fill them up: the fields that the block's kind uses (12.6). -/
def blockFields : Instr → Option (List Byte)
  | .idleBlock n => some [0, n]
  | .verdict n mode address action mask => some ([1, n, mode] ++ split16 address ++ [action, mask])
  | .keep (.office n) target number tag => some ([2, n, target] ++ split16 number ++ split16 tag)
  | .release (.office n) target number tag => some ([3, n, target] ++ split16 number ++ split16 tag)
  | .fetchRegion n frame tag x y w h factor =>
      some ([4, n] ++ split16 frame ++ split16 tag ++ split16 x ++ split16 y ++ split16 w ++ split16 h ++ [factor])
  | .queryItem n mode address => some ([5, n, mode] ++ split16 address)
  | .queryStatus n => some [6, n]
  | .unknownRequestKind kind n => some [kind, n]
  | _ => none

/-- The 64 bytes of an office request (12.6): its fields, zeros up to byte 61, and the CRC-16 of those 62 bytes (R191). -/
def encodeBlock (i : Instr) : Option (List Byte) :=
  (blockFields i).map fun f =>
    (f ++ List.replicate (62 - f.length) 0) ++ split16 (Machine.crc16 (f ++ List.replicate (62 - f.length) 0))

/-! ## Line port transactions (12.7) -/

/-- The request code of a line port request (12.7). -/
def LineRequest.code : LineRequest → Byte
  | .readStatus => 1
  | .setMode _ => 2
  | .configure _ => 3
  | .readConfiguration => 4
  | .writePlan _ => 5
  | .commitPlan _ => 6
  | .readPlan _ => 7
  | .announceItem _ => 8
  | .voidItem _ _ => 9
  | .forceDecision _ _ _ => 10
  | .readItem _ _ => 11
  | .keep _ _ _ => 12
  | .release _ _ _ => 13
  | .readEvents => 14
  | .clearEvents _ => 15
  | .setEvents _ => 16
  | .setEventEnables _ => 17
  | .readCounts _ => 18
  | .clear => 19

/-- Whether a payload length is one that the layout of the request with this code requires (12.7, R176). -/
def requestLengthOk (code length : Nat) : Bool :=
  match code with
  | 1 => length == 0
  | 2 => length == 1
  | 3 => length % 4 == 0 && decide (1 ≤ length / 4) && decide (length / 4 ≤ 19)
  | 4 => length == 0
  | 5 => length == 55
  | 6 => length == 1
  | 7 => length == 1
  | 8 => length == 2
  | 9 => length == 3
  | 10 => length == 4
  | 11 => length == 3
  | 12 => length == 5
  | 13 => length == 5
  | 14 => length == 0
  | 15 => length == 2
  | 16 => length == 2
  | 17 => length == 2
  | 18 => length == 1
  | 19 => length == 0
  | _ => false

/-- The setting items of a CONFIGURE payload, four bytes each. -/
def settingItems : List Byte → List SettingItem
  | n :: a :: b :: c :: rest => { number := n, value := word24 a b c } :: settingItems rest
  | _ => []

/-- A station of a WRITE PLAN payload that begins at place `i`. -/
def stationPayload (p : List Byte) (i : Nat) : StationPayload :=
  { flags := at_ p i, offset := at3 p (i + 1), exposure := at_ p (i + 4) }

/-- A WRITE PLAN payload (12.7): bank, eight stations of five bytes, then the five common fields. -/
def planPayload (p : List Byte) : PlanPayload :=
  { bank := at_ p 0, stations := Vector.ofFn fun k : Fin 8 => stationPayload p (1 + 5 * k.val),
    decision := at3 p 41, rejectGate := at3 p 44, reworkGate := at3 p 47, width := at2 p 50, exit := at3 p 52 }

/-- The request that a code and a payload of a length that fits it stand for (12.7). -/
def requestOf (code : Byte) (p : List Byte) : Option LineRequest :=
  if !requestLengthOk code.toNat p.length then none
  else match code.toNat with
    | 1 => some .readStatus
    | 2 => some (.setMode (at_ p 0))
    | 3 => some (.configure (settingItems p))
    | 4 => some .readConfiguration
    | 5 => some (.writePlan (planPayload p))
    | 6 => some (.commitPlan (at_ p 0))
    | 7 => some (.readPlan (at_ p 0))
    | 8 => some (.announceItem (at2 p 0))
    | 9 => some (.voidItem (at_ p 0) (at2 p 1))
    | 10 => some (.forceDecision (at_ p 0) (at2 p 1) (at_ p 3))
    | 11 => some (.readItem (at_ p 0) (at2 p 1))
    | 12 => some (.keep (at_ p 0) (at2 p 1) (at2 p 3))
    | 13 => some (.release (at_ p 0) (at2 p 1) (at2 p 3))
    | 14 => some .readEvents
    | 15 => some (.clearEvents (at2 p 0))
    | 16 => some (.setEvents (at2 p 0))
    | 17 => some (.setEventEnables (at2 p 0))
    | 18 => some (.readCounts (at_ p 0))
    | 19 => some .clear
    | _ => none

/-- The request of a WRITE REQUEST transaction: code, length byte, payload; none where the code names no request, the
payload sent differs from the length byte, or the length byte from the layout (R176). -/
def transactionRequest : List Byte → Option LineRequest
  | code :: len :: payload => if payload.length = len.toNat then requestOf code payload else none
  | _ => none

/-- The payload of a setting item. -/
def SettingItem.bytes (i : SettingItem) : List Byte :=
  i.number :: split24 i.value

/-- The payload of one station of WRITE PLAN. -/
def StationPayload.bytes (p : StationPayload) : List Byte :=
  [p.flags] ++ split24 p.offset ++ [p.exposure]

/-- The payload of WRITE PLAN, 55 bytes. -/
def PlanPayload.bytes (p : PlanPayload) : List Byte :=
  [p.bank] ++ p.stations.toList.flatMap StationPayload.bytes ++ split24 p.decision ++ split24 p.rejectGate
    ++ split24 p.reworkGate ++ split16 p.width ++ split24 p.exit

/-- The payload of a line port request (12.7). -/
def LineRequest.payload : LineRequest → List Byte
  | .readStatus => []
  | .setMode mode => [mode]
  | .configure items => items.flatMap SettingItem.bytes
  | .readConfiguration => []
  | .writePlan plan => plan.bytes
  | .commitPlan bank => [bank]
  | .readPlan bank => [bank]
  | .announceItem back => split16 back
  | .voidItem mode number => mode :: split16 number
  | .forceDecision mode number action => mode :: split16 number ++ [action]
  | .readItem mode number => mode :: split16 number
  | .keep target number tag => target :: split16 number ++ split16 tag
  | .release target number tag => target :: split16 number ++ split16 tag
  | .readEvents => []
  | .clearEvents marks => split16 marks
  | .setEvents marks => split16 marks
  | .setEventEnables enables => split16 enables
  | .readCounts clearAfter => [clearAfter]
  | .clear => []

/-- The bytes of a WRITE REQUEST transaction (12.7). -/
def LineRequest.transaction (r : LineRequest) : List Byte :=
  r.code :: BitVec.ofNat 8 r.payload.length :: r.payload

/-- The command that a taken request is: the row of the table with its name. -/
def LineRequest.command : LineRequest → Instr
  | .readStatus => .readStatus
  | .setMode mode => .setMode mode
  | .configure items => .configure items
  | .readConfiguration => .readConfiguration
  | .writePlan plan => .writePlan plan
  | .commitPlan bank => .commitPlan bank
  | .readPlan bank => .readPlan bank
  | .announceItem back => .announceItem back
  | .voidItem mode number => .voidItem mode number
  | .forceDecision mode number action => .forceDecision mode number action
  | .readItem mode number => .readItem mode number
  | .keep target number tag => .keep .lineController target number tag
  | .release target number tag => .release .lineController target number tag
  | .readEvents => .readEvents
  | .clearEvents marks => .clearEvents marks
  | .setEvents marks => .setEvents marks
  | .setEventEnables enables => .setEventEnables enables
  | .readCounts clearAfter => .readCounts clearAfter
  | .clear => .clear

/-- Whether a request has a number of setting items that its layout allows (12.7: 1 to 19). -/
def LineRequest.lengthOk : LineRequest → Bool
  | .configure items => decide (1 ≤ items.length) && decide (items.length ≤ 19)
  | _ => true

/-! ## Camera headers and trailers (12.3) -/

/-- The command of a complete camera header of eight bytes (12.3). -/
def headerCommand (port : Station) (bs : List Byte) : Instr :=
  .frameHeader port (.complete (at3 bs 0) (at2 bs 3) (at2 bs 5) (at_ bs 7))

/-- The command of a complete camera trailer of six bytes (12.3). -/
def trailerCommand (port : Station) (bs : List Byte) : Instr :=
  .frameTrailer port (at2 bs 0) (at4 bs 2)

end Sys2Proof
end

