-- ==== Sys2Proof/Machine/Memory.lean ====
section
/-! DEFINITION. The bytes of the frame store's blocks (R104, R107): a list of cells in one canonical form. -/

namespace Sys2Proof.Machine

/-- What a byte of the frame store that nothing has written reads as: DESIGN CHOICE (log 5). -/
def unlistedByte : Byte := 0

/-- The byte at an address. -/
def Memory.read : List Host.Cell → Nat → Byte
  | [], _ => unlistedByte
  | (k, b) :: rest, a => if k = a then b else Memory.read rest a

/-- A byte written at an address; writing what an unlisted address reads as removes the cell. -/
def Memory.write : List Host.Cell → Nat → Byte → List Host.Cell
  | [], a, v => if v = unlistedByte then [] else [(a, v)]
  | (k, b) :: rest, a, v =>
      if a < k then (if v = unlistedByte then (k, b) :: rest else (a, v) :: (k, b) :: rest)
      else if a = k then (if v = unlistedByte then rest else (a, v) :: rest)
      else (k, b) :: Memory.write rest a v

/-- Bytes written at ascending addresses from `a` on. -/
def Memory.writeBytes : List Host.Cell → Nat → List Byte → List Host.Cell
  | m, _, [] => m
  | m, a, v :: vs => Memory.writeBytes (Memory.write m a v) (a + 1) vs

/-- The canonical form above a floor: addresses strictly rising, no cell that holds what an unlisted address reads as. -/
def Memory.wfFrom : Nat → List Host.Cell → Bool
  | _, [] => true
  | floor, (k, b) :: rest => decide (floor ≤ k) && b != unlistedByte && Memory.wfFrom (k + 1) rest

/-- The canonical form of the frame store's bytes. -/
def Memory.wf (m : List Host.Cell) : Bool :=
  Memory.wfFrom 0 m

end Sys2Proof.Machine
end

