-- ==== Sys2Proof/Machine/Ops.lean ====
section
/-! DEFINITION. The named operations the units share: positions and times, plan banks, item records, frame records and
blocks, reports, retirement, triggers and fire lists. -/

namespace Sys2Proof.Machine

/-! ## Positions and times -/

/-- The signed 32-bit difference of two positions or two times (conventions of chapter 0). -/
def signedDiff (p x : Word32) : Int :=
  (p - x).toInt

/-- `p` is at or beyond `x` (R26). -/
def atOrBeyond (p x : Word32) : Bool :=
  decide (0 ≤ signedDiff p x)

/-- The position of a point at an offset from an entry position, modulo 2^32 (R26). -/
def pointAt (entry : Word32) (offset : Word24) : Word32 :=
  entry + offset.setWidth 32

/-- A time `n` microseconds after `t`, modulo 2^32. -/
def after (t : Word32) (n : Nat) : Word32 :=
  t + BitVec.ofNat 32 n

/-- The position count is at or beyond a position. -/
def positionReached (x : Word32) (s : State) : Bool :=
  atOrBeyond s.pos.position x

/-- The time count is at or beyond a time. -/
def timeReached (x : Word32) (s : State) : Bool :=
  atOrBeyond s.pos.time x

/-- The remaining distance to a point at an offset (R30). -/
def remaining (entry : Word32) (offset : Word24) (position : Word32) : Int :=
  (offset.toNat : Int) - signedDiff position entry

/-- The time-to-point (R30), in microseconds. -/
def timeToPoint (entry : Word32) (offset : Word24) (s : State) : Nat :=
  if remaining entry offset s.pos.position ≤ 0 then 0
  else if s.pos.speed = 0 then Config.tMax
  else min Config.tMax ((remaining entry offset s.pos.position).toNat * 1024 / s.pos.speed)

/-! ## Plan banks -/

/-- The bank of a name. -/
def bankOf (n : BankName) (s : State) : PlanBank :=
  match n with
  | .a => s.plans.a
  | .b => s.plans.b

/-- One bank changed. -/
def updBank (n : BankName) (f : PlanBank → PlanBank) (s : State) : State :=
  match n with
  | .a => { s with plans.a := f s.plans.a }
  | .b => { s with plans.b := f s.plans.b }

/-- The other bank. -/
def BankName.other : BankName → BankName
  | .a => .b
  | .b => .a

/-- The plan of the bank that a name names (R2). -/
def planOf (n : BankName) (s : State) : Plan :=
  (bankOf n s).plan

/-- A swap (R47): the shadow bank becomes active, the pending-swap flag is cleared, PLAN_SWAPPED is raised. -/
def swapBanks (s : State) : State :=
  raise .planSwapped { s with plans.active := s.plans.active.other, plans.pendingSwap := false }

/-- The offset of a gate in a plan (R39). -/
def Plan.gateOffset (p : Plan) : Gate → Word24
  | .reject => p.rejectGate
  | .rework => p.reworkGate

/-! ## Item records -/

/-- The eight stations in ascending order. -/
def allStations : List Station := [0, 1, 2, 3, 4, 5, 6, 7]

/-- One change at each of the eight stations. -/
def onEach {α β : Type} (f : α → β) (v : Vector α 8) : Vector β 8 :=
  Vector.ofFn fun k : Fin 8 => f v[k]

/-- The live record that carries a tag. -/
def itemOf? (tag : Tag) (s : State) : Option Item :=
  s.queue.items.find? fun i => i.tag == tag

/-- The live record that carries a tag and a bank. -/
def liveItem? (tag : Tag) (bank : BankName) (s : State) : Option Item :=
  s.queue.items.find? fun i => i.tag == tag && i.bank == bank

/-- The record that carries a tag changed. -/
def updItem (tag : Tag) (f : Item → Item) (s : State) : State :=
  { s with queue.items := s.queue.items.map fun i => if i.tag = tag then f i else i }

/-- WAITING or TRIGGERED: a station that is not resolved (R11). -/
def StationOutcome.unresolved (o : StationOutcome) : Bool :=
  o == .waiting || o == .triggered

/-- DAMAGED, MISSING, DROPPED, OVERRUN or SKIPPED (R61, R66). -/
def StationOutcome.faulty : StationOutcome → Bool
  | .damaged _ => true
  | .missing => true
  | .dropped => true
  | .overrun => true
  | .skipped => true
  | .disabled => false
  | .waiting => false
  | .triggered => false
  | .frame _ => false
  | .lateFrame _ => false

/-- Some station of the record is WAITING or TRIGGERED. -/
def Item.unresolved (i : Item) : Bool :=
  i.stations.toList.any StationOutcome.unresolved

/-- A station outcome changes, and an ENTERED record with nothing unresolved after it goes to COMPLETE in the same step (R11). -/
def Item.withStation (i : Item) (st : Station) (o : StationOutcome) : Item :=
  let changed : Item := { i with stations := i.stations.set st.val o st.isLt }
  if changed.phase = .entered && !changed.unresolved then { changed with phase := .complete } else changed

/-- A station outcome of the record that carries a tag changes (R11). -/
def setStation (tag : Tag) (st : Station) (o : StationOutcome) (s : State) : State :=
  updItem tag (fun i => i.withStation st o) s

/-- A station fault is raised and counted (R63, R73, R78). -/
def stationFault (s : State) : State :=
  bump .stationFaults (raise .stationFault s)

/-! ## Frame records and blocks -/

/-- All frame ids in ascending order. -/
def allFrameIds : List FrameId :=
  (List.range' 0 1024).map (Fin.ofNat 1024)

/-- A frame record. -/
def frameOf (id : FrameId) (s : State) : FrameRecord :=
  s.store.frames[id]

/-- A frame record replaced. -/
def setFrame (id : FrameId) (r : FrameRecord) (s : State) : State :=
  { s with store.frames := s.store.frames.set id.val r id.isLt }

/-- A list without an id. -/
def without (id : FrameId) (l : List FrameId) : List FrameId :=
  l.filter fun x => x != id

/-- A list with an id at its tail, unless the id stands in it already. -/
def joined (id : FrameId) (l : List FrameId) : List FrameId :=
  if id ∈ l then l else l ++ [id]

/-- The frame record that an item station references (R108): the id its outcome carries, where the record is FILLING or
READY with the item's tag, bank and station. -/
def references (i : Item) (st : Station) (s : State) : Option FrameId :=
  match i.stations[st].frameId? with
  | some id =>
      if (frameOf id s).state ≠ .free ∧ (frameOf id s).tag = i.tag ∧ (frameOf id s).bank = i.bank
          ∧ (frameOf id s).station = st then some id else none
  | none => none

/-- Evictable (R116). -/
def FrameRecord.evictable (r : FrameRecord) : Bool :=
  r.state == .ready && r.cls == .background && !r.k0 && !r.k1 && r.openTx == 0

/-- The record meets the test of R112. -/
def FrameRecord.freeable (r : FrameRecord) : Bool :=
  r.state == .ready && r.cls == .done && !r.k0 && !r.k1 && r.openTx == 0

/-- The record waits in the background order (R136). -/
def FrameRecord.waitsInBackground (r : FrameRecord) : Bool :=
  r.state == .ready && r.cls == .background

/-- A record goes back to FREE (R106): its blocks join the tail of the free list in block-list order, and it stands on
the reclaim list and in the background order no longer. -/
def freeFrame (id : FrameId) (s : State) : State :=
  { s with
    store.freeList := s.store.freeList ++ (frameOf id s).blocks
    store.frames := s.store.frames.set id.val FrameRecord.freed id.isLt
    store.reclaim := without id s.store.reclaim
    uplink.bgOrder := without id s.uplink.bgOrder }

/-- After a change of a record the Frame Store applies R112, the reclaim rule R116 and the background order R136. -/
def settleFrame (id : FrameId) (s : State) : State :=
  if (frameOf id s).freeable then freeFrame id s
  else { s with
    store.reclaim := if (frameOf id s).evictable then joined id s.store.reclaim else without id s.store.reclaim
    uplink.bgOrder := if (frameOf id s).waitsInBackground then joined id s.uplink.bgOrder else without id s.uplink.bgOrder }

/-- A record changes and is settled. -/
def updFrame (id : FrameId) (f : FrameRecord → FrameRecord) (s : State) : State :=
  settleFrame id (setFrame id (f (frameOf id s)) s)

/-- Eviction (R117): the head of the reclaim list is freed and counted; none when the list is empty. -/
def evictHead? (s : State) : Option State :=
  match s.store.reclaim with
  | [] => none
  | id :: _ => some (bump .evictedFrames (freeFrame id s))

/-- Whether a list has at least `n` entries. -/
def hasAtLeast {α : Type} : List α → Nat → Bool
  | _, 0 => true
  | [], _ + 1 => false
  | _ :: rest, n + 1 => hasAtLeast rest n

/-- The watermark rule (R118), for at most `fuel` evictions. -/
def evictToWatermark : Nat → State → State
  | 0, s => s
  | fuel + 1, s =>
      if hasAtLeast s.store.freeList s.port.settings.watermark then s
      else match evictHead? s with
        | none => s
        | some t => evictToWatermark fuel t

/-- A block from the head of a free list that is not empty, at the end of a record's block list, and then the watermark
rule (R105, R118). -/
def takeBlock (id : FrameId) (b : Block) (rest : List Block) (s : State) : State :=
  let taken := setFrame id { frameOf id s with blocks := (frameOf id s).blocks ++ [b] } { s with store.freeList := rest }
  evictToWatermark taken.store.reclaim.length taken

/-- A block allocation for a record (R105, R119), and whether it succeeded; a failed one raises STORE_PRESSURE. -/
def allocBlock (id : FrameId) (s : State) : State × Bool :=
  match s.store.freeList with
  | b :: rest => (takeBlock id b rest s, true)
  | [] =>
    match evictHead? s with
    | none => (raise .storePressure s, false)
    | some t =>
      match t.store.freeList with
      | b :: rest => (takeBlock id b rest t, true)
      | [] => (raise .storePressure t, false)

/-- The FREE record with the lowest id (R106). -/
def lowestFree (s : State) : Option FrameId :=
  allFrameIds.find? fun id => (frameOf id s).state == .free

/-- A record for a matched header (R90, R119): the lowest FREE id, after one eviction where none is FREE. -/
def takeRecord (s : State) : Option (FrameId × State) :=
  match lowestFree s with
  | some id => some (id, s)
  | none =>
    match evictHead? s with
    | none => none
    | some t => (lowestFree t).map fun id => (id, t)

/-- The number of frame records that are not FREE (R186). -/
def framesInUse (s : State) : Nat :=
  s.store.frames.toList.countP fun r => r.state != .free

/-- The finer of two copies (R111). -/
def BestCopy.finer : BestCopy → BestCopy → BestCopy
  | .full, _ => .full
  | _, .full => .full
  | .f2, _ => .f2
  | _, .f2 => .f2
  | .f4, _ => .f4
  | .none, b => b

/-- The copy a factor makes (R111). -/
def copyOfFactor (f : Nat) : BestCopy :=
  if f = 1 then .full else if f = 2 then .f2 else .f4

/-- A transmission on a record opens (R111). -/
def reportOpening (id : FrameId) (s : State) : State :=
  updFrame id (fun r => { r with openTx := r.openTx + 1 }) s

/-- A transmission on a record closes (R111). -/
def reportClosing (id : FrameId) (s : State) : State :=
  updFrame id (fun r => { r with openTx := r.openTx - 1 }) s

/-- A copy at a factor completes and the transmission that made it closes, in one step (R111). -/
def reportCompletion (id : FrameId) (f : Nat) (s : State) : State :=
  updFrame id (fun r => { r with best := r.best.finer (copyOfFactor f), cls := if f = 1 then .done else r.cls,
                                 openTx := r.openTx - 1 }) s

/-- The class a record takes when it becomes READY (R99). -/
def classAtReady (r : FrameRecord) (s : State) : FrameClass :=
  if r.cls = .done then .done
  else match liveItem? r.tag r.bank s with
    | some i => if i.decision.isNone && i.phase != .void then .deadline else .background
    | none => .background

/-- A frame ends: its record becomes READY and takes its class (R99). -/
def frameEnds (id : FrameId) (s : State) : State :=
  updFrame id (fun r => { r with state := .ready, cls := classAtReady r s }) s

/-! ## Reports -/

/-- The eight station entries of a record, with the present flags as they stand (R10). -/
def stationEntries (i : Item) (s : State) : Vector StationEntry 8 :=
  Vector.ofFn fun k => { outcome := i.stations[k], present := (references i k s).isSome }

/-- The message of 12.5 about a record, taken now. -/
def reportOn (kind : ReportKind) (i : Item) (autoKept : Bool) (depth : Nat) (s : State) : Report :=
  { kind := kind, tag := i.tag, bank := i.bank, entry := i.entry, phase := i.phase, verdict := i.verdict, force := i.force,
    decision := i.decision, gateOutcome := i.gateOutcome, autoKept := autoKept, depth := depth,
    stations := stationEntries i s, position := s.pos.position,
    toPoint := timeToPoint i.entry (planOf i.bank s).decision s, time := s.pos.time, speed := s.pos.speed }

/-- A report offered to the report queue (R140): a full queue drops its oldest, and the loss is raised and counted. -/
def offerReport (r : Report) (s : State) : State :=
  if Config.reportQueueCapacity ≤ s.uplink.reports.length then
    bump .lostReports (raise .reportLoss { s with uplink.reports := s.uplink.reports.tail ++ [r] })
  else { s with uplink.reports := s.uplink.reports ++ [r] }

/-! ## Retirement -/

/-- The record meets both conditions of R16. -/
def mayRetire (i : Item) (s : State) : Bool :=
  (i.phase == .passed || i.phase == .void) && positionReached (pointAt i.entry (planOf i.bank s).exit) s

/-- The head record retires (R17): it leaves the queue, its bank's in-use count falls by one (R42), its retire report is offered. -/
def retireHead (i : Item) (rest : List Item) (s : State) : State :=
  offerReport (reportOn .retire i false 0 s)
    (updBank i.bank (fun b => { b with inUse := b.inUse - 1 }) { s with queue.items := rest })

/-- The head is examined, and each new head after a retirement, for at most `fuel` records (R16). -/
def examineHeads : Nat → State → State
  | 0, s => s
  | fuel + 1, s =>
    match s.queue.items with
    | [] => s
    | i :: rest => if mayRetire i s then examineHeads fuel (retireHead i rest s) else s

/-- The Item Queue examines the head (R16). -/
def examineHead (s : State) : State :=
  examineHeads s.queue.items.length s

/-! ## Trigger Unit -/

/-- One station of the Trigger Unit changed. -/
def updTrig (st : Station) (f : StationTriggers → StationTriggers) (s : State) : State :=
  { s with trig := s.trig.set st.val (f s.trig[st]) st.isLt }

/-- A station's timeout list without an item's entry (R79). -/
def StationTriggers.dropTimeout (tag : Tag) (bank : BankName) (t : StationTriggers) : StationTriggers :=
  { t with timeouts := t.timeouts.filter fun e => !(e.tag == tag && e.bank == bank) }

/-- A station's trigger queue and timeout list without an item's entries (R81); its train runs on. -/
def StationTriggers.dropItem (tag : Tag) (bank : BankName) (t : StationTriggers) : StationTriggers :=
  { t with queue := t.queue.filter (fun e => !(e.tag == tag && e.bank == bank))
           timeouts := t.timeouts.filter (fun e => !(e.tag == tag && e.bank == bank)) }

/-- The item's entries leave every trigger queue and timeout list (R81). -/
def removeTriggers (tag : Tag) (bank : BankName) (s : State) : State :=
  { s with trig := onEach (StationTriggers.dropItem tag bank) s.trig }

/-! ## Gates -/

/-- The gate of a name. -/
def gateOf (g : Gate) (s : State) : GateState :=
  match g with
  | .reject => s.gates.reject
  | .rework => s.gates.rework

/-- One gate changed. -/
def updGate (g : Gate) (f : GateState → GateState) (s : State) : State :=
  match g with
  | .reject => { s with gates.reject := f s.gates.reject }
  | .rework => { s with gates.rework := f s.gates.rework }

/-- The gate that an action calls for (R64). -/
def Action.gate? : Action → Option Gate
  | .accept => none
  | .reject => some .reject
  | .rework => some .rework

/-- A fire in its place on a list ordered by start: after every entry at or before its start, ahead of every entry beyond it (R147). -/
def insertFire (f : Fire) : List Fire → List Fire
  | [] => [f]
  | e :: rest => if 0 < signedDiff e.start f.start then f :: e :: rest else e :: insertFire f rest

/-- The item's entry leaves a gate's fire list. -/
def GateState.dropFire (tag : Tag) (g : GateState) : GateState :=
  { g with fires := g.fires.filter fun f => f.tag != tag }

/-- The item's entry on a gate's fire list takes a status. -/
def GateState.setStatus (tag : Tag) (st : FireStatus) (g : GateState) : GateState :=
  { g with fires := g.fires.map fun f => if f.tag = tag then { f with status := st } else f }

/-- A phase and a gate outcome written by the Gate Unit. -/
def setGateOutcome (tag : Tag) (p : Phase) (o : GateOutcome) (s : State) : State :=
  updItem tag (fun i => { i with phase := p, gateOutcome := o }) s

/-- A fire that is missed (R147, R151): its entry leaves the list, the item becomes PASSED with MISSED, raised and counted. -/
def missFire (g : Gate) (tag : Tag) (s : State) : State :=
  bump .missedFires (raise .fireMissed (setGateOutcome tag .passed .missed (updGate g (GateState.dropFire tag) s)))

end Sys2Proof.Machine
end

