-- ==== Sys2Proof/Machine/Operands.lean ====
section
/-! DEFINITION. The operand forms of requests: item addresses, coded values read from bytes, setting items. -/

namespace Sys2Proof.Machine

/-- What an item address finds (R9). -/
inductive Addressed where
  | outOfRange
  | noItem
  | found (depth : Nat) (item : Item)
  deriving DecidableEq, Repr

/-- The record that carries the tag `n`, with its depth. -/
def findTag (n : Nat) : List Item → Nat → Addressed
  | [], _ => .noItem
  | i :: rest, d => if i.tag.val = n then .found d i else findTag n rest (d + 1)

/-- The record at depth `d`. -/
def findDepth (d : Nat) (items : List Item) : Addressed :=
  match items[d]? with
  | some i => .found d i
  | none => .noItem

/-- An item address (R9, 12.1): mode 0 a tag, mode 1 a depth, any other mode out of range (R192). -/
def address (mode : Byte) (n : Word16) (s : State) : Addressed :=
  if mode = 0 then (if n.toNat ≤ 1023 then findTag n.toNat s.queue.items 0 else .outOfRange)
  else if mode = 1 then (if n.toNat ≤ 127 then findDepth n.toNat s.queue.items else .outOfRange)
  else .outOfRange

/-- An action byte (12.1). -/
def actionOf (n : Nat) : Option Action :=
  match n with
  | 0 => some .accept
  | 1 => some .reject
  | 2 => some .rework
  | _ => none

/-- A mode byte (12.1). -/
def modeOf (n : Nat) : Option Mode :=
  match n with
  | 0 => some .run
  | 1 => some .trackOnly
  | 2 => some .halt
  | _ => none

/-- A bank byte (12.1). -/
def bankNameOf (n : Nat) : Option BankName :=
  match n with
  | 0 => some .a
  | 1 => some .b
  | _ => none

/-- A value kept when it is in range. -/
def inRange (ok : Bool) (c : Settings) : Option Settings :=
  if ok then some c else none

/-- A setting that holds an action. -/
def withAction (v : Nat) (f : Action → Settings) : Option Settings :=
  (actionOf v).map f

/-- One setting item written (R182): none where it names no setting or its value is outside the setting's range. -/
def Settings.write (c : Settings) (n v : Nat) : Option Settings :=
  match n with
  | 0 => inRange ([1, 2, 4, 8, 16, 32, 64, 128].contains v) { c with prescaler := v }
  | 1 => inRange (decide (v ≤ 1)) { c with polarity := if v = 0 then .normal else .inverted }
  | 2 => inRange (decide (v ≤ 1)) { c with entrySource := if v = 0 then .sensor else .command }
  | 3 => inRange (decide (1 ≤ v) && decide (v ≤ 65535)) { c with minPitch := v }
  | 4 => inRange (decide (1 ≤ v) && decide (v ≤ 1500)) { c with laneRate := v }
  | 5 => inRange (decide (v ≤ 1000000)) { c with allowance := v }
  | 6 => inRange ([1, 2, 4].contains v) { c with maxFactor := v }
  | 7 => inRange (decide (1000 ≤ v) && decide (v ≤ 1000000)) { c with cameraTimeout := v }
  | 8 => inRange ([1, 2, 4, 8].contains v) { c with bitPeriod := v }
  | 9 => withAction v fun a => { c with defaultTrackOnly := a }
  | 10 => withAction v fun a => { c with defaultLinkDown := a }
  | 11 => withAction v fun a => { c with defaultStationFault := a }
  | 12 => withAction v fun a => { c with defaultNoVerdict := a }
  | 13 => inRange (decide (v ≤ 3))
            { c with autoKeep := if v = 0 then .none else if v = 1 then .onReject else if v = 2 then .onDefault else .onFault }
  | 14 => inRange (decide (v ≤ 1)) { c with haltMode := if v = 0 then .cut else .hold }
  | 15 => inRange (decide (v ≤ 65535)) { c with rejectGap := v }
  | 16 => inRange (decide (v ≤ 65535)) { c with reworkGap := v }
  | 17 => inRange (decide (v ≤ 1024)) { c with watermark := v }
  | 18 => inRange (decide (100 ≤ v) && decide (v ≤ 10000)) { c with lossTimeout := v }
  | _ => none

/-- Every item of a CONFIGURE written in request order, or the place of the first faulty one, counted from `at` (R182). -/
def Settings.writeAll (c : Settings) : List SettingItem → Nat → Except Nat Settings
  | [], _ => .ok c
  | i :: rest, place =>
    match c.write i.number.toNat i.value.toNat with
    | some d => d.writeAll rest (place + 1)
    | none => .error place

end Sys2Proof.Machine
end

