-- ==== Sys2Proof/Machine/Link.lean ====
section
/-! DEFINITION. The Fibre Link (chapter 10): good and bad blocks, the link states, dispatch and replies, link loss. -/

namespace Sys2Proof.Machine

/-- A reply offered to the reply queue (R141): a full queue drops its oldest, silently. -/
def offerReply (r : Reply) (s : State) : State :=
  if Config.replyQueueCapacity ≤ s.uplink.replies.length then
    { s with uplink.replies := s.uplink.replies.tail ++ [r] }
  else { s with uplink.replies := s.uplink.replies ++ [r] }

/-- The request kinds of a downlink block (12.6). -/
inductive RequestKind where
  | idle
  | verdict
  | keep
  | release
  | fetchRegion
  | queryItem
  | queryStatus
  deriving DecidableEq, Repr

/-- The request kind as the byte of a block and of a reply (12.6). -/
def RequestKind.code : RequestKind → Byte
  | .idle => 0
  | .verdict => 1
  | .keep => 2
  | .release => 3
  | .fetchRegion => 4
  | .queryItem => 5
  | .queryStatus => 6

/-- The link becomes UP (R162): LINK_UP is raised, the loss timer starts, the lamp follows. -/
def linkUp (s : State) : State :=
  followLamp (raise .linkUp
    { s with link.state := .up, link.goodRun := Config.goodBlocksToUp,
             link.lossTimer := some (after s.pos.time s.port.settings.lossTimeout) })

/-- A good block in ALIGNING (R162): it adds to the run, and the block that brings the run to 4 brings the link up; it is not dispatched. -/
def goodInAligning (s : State) : State :=
  if Config.goodBlocksToUp ≤ s.link.goodRun + 1 then linkUp s
  else { s with link.goodRun := s.link.goodRun + 1 }

/-- A good block in UP restarts the loss timer (R163). -/
def restartLossTimer (s : State) : State :=
  { s with link.lossTimer := some (after s.pos.time s.port.settings.lossTimeout) }

/-- A good block (R160 to R163): the receiver is back in HUNT; in UP its request is dispatched to `owner` (R167). -/
def goodBlock (owner : State → State) (s : State) : State :=
  match s.link.state with
  | .aligning => goodInAligning { s with link.receiver := .hunt }
  | .up => owner (restartLossTimer { s with link.receiver := .hunt })

/-- A request dispatched to an owner that answers it, and the reply offered in the same step (R167, R168). -/
def dispatch (kind number : Byte) (owner : State → State × Result × List Byte) (s : State) : State :=
  match owner s with
  | (t, result, body) => offerReply { kind := kind, number := number, result := result, body := body } t

/-- A bad block (R161, R162): counted, the pending-fault flag set, and in ALIGNING the good-block run starts again; the
receiver goes on as `r` says (R160). -/
def badBlock (r : Receiver) (s : State) : State :=
  bump .badDownlinkBlocks
    { s with link.receiver := r,
             link.pendingFault := true,
             link.goodRun := (match s.link.state with | .aligning => 0 | .up => s.link.goodRun) }

/-- A block start (R160): it begins a block, and in COLLECT it first cuts the partial block short, which is a bad block. -/
def blockStart (s : State) : State :=
  match s.link.receiver with
  | .hunt => { s with link.receiver := .collect [] }
  | .collect _ => badBlock (.collect []) s

/-- The start of a block that arrives whole: not repeated where the receiver has just begun a block (log 8). -/
def beginBlock (s : State) : State :=
  match s.link.receiver with
  | .collect [] => s
  | .collect (_ :: _) => blockStart s
  | .hunt => blockStart s

/-- The closings at link loss, reported to the Frame Store: the deadline transmission's first, then the region's, then the background's (R134). -/
def closeAllReported (s : State) : State :=
  let afterDeadline := match s.uplink.deadline with | some t => reportClosing t.frame s | none => s
  let afterRegion := match s.uplink.region with | some t => reportClosing t.frame afterDeadline | none => afterDeadline
  match s.uplink.background with | some t => reportClosing t.frame afterRegion | none => afterRegion

/-- The link leaves UP (R164): the transmissions close (R134), owed ABORTs are dropped, the region and reply queues are
emptied, the report queue is kept, the run is 0, the loss timer stops, LINK_DOWN is raised, the lamp follows. -/
def linkDown (s : State) : State :=
  let closed := closeAllReported s
  followLamp (raise .linkDown
    { closed with
      uplink.deadline := none
      uplink.region := none
      uplink.background := none
      uplink.clearAborts := []
      uplink.regions := []
      uplink.replies := []
      link.state := .aligning
      link.goodRun := 0
      link.lossTimer := none })

/-- The loss timer's expiry has been reached with the link UP (R164). -/
def lossTimerDue (s : State) : Bool :=
  match s.link.state, s.link.lossTimer with
  | .up, some e => timeReached e s
  | .up, none => false
  | .aligning, _ => false

/-- QUERY STATUS (R170), answered by the Fibre Link. -/
def queryStatusBody (s : State) : List Byte :=
  [s.port.mode.code, s.link.state.code] ++ bytes2 s.queue.items.length ++ bytes2 s.store.freeList.length
    ++ [s.plans.active.code, flagByte s.plans.pendingSwap] ++ bytes2 s.pos.speed ++ bytes4 s.pos.position.toNat
    ++ bytes4 s.pos.time.toNat ++ [flagByte s.pos.halt] ++ bytes2 (countOf .badDownlinkBlocks s).toNat
    ++ bytes2 (countOf .lostReports s).toNat

/-- The office's IDLE, dispatched to no owner (R167). -/
def officeIdle (s : State) : State :=
  goodBlock (fun t => t) s

/-- The office's QUERY STATUS, dispatched (R170). -/
def officeQueryStatus (number : Byte) (s : State) : State :=
  goodBlock (dispatch RequestKind.queryStatus.code number fun t => (t, .ok, queryStatusBody t)) s

/-- A request of a kind that names none of the seven: INVALID at dispatch, with an empty body (R167). -/
def officeUnknown (kind number : Byte) (s : State) : State :=
  goodBlock (dispatch kind number fun t => (t, .invalid, [])) s

/-- IDLE_BLOCK (R163, R167): no reply. -/
def execIdleBlock (_number : Byte) (s : State) : Host.Outcome State Fault Refusal :=
  .next (officeIdle (beginBlock s))

/-- QUERY_STATUS (R170). -/
def execQueryStatus (number : Byte) (s : State) : Host.Outcome State Fault Refusal :=
  .next (officeQueryStatus number (beginBlock s))

/-- UNKNOWN_REQUEST_KIND (R167). -/
def execUnknownRequestKind (kind number : Byte) (s : State) : Host.Outcome State Fault Refusal :=
  .next (officeUnknown kind number (beginBlock s))

/-- LOSS_TIMER_EXPIRY (R164); a timer that is not due changes nothing (log 2). -/
def execLossTimerExpiry (s : State) : Host.Outcome State Fault Refusal :=
  .next (if lossTimerDue s then linkDown s else s)

end Sys2Proof.Machine
end

