-- ==== Sys2Proof/Machine/Triggers.lean ====
section
/-! DEFINITION. The Trigger Unit (chapter 5): stations falling due, trains, camera timeouts. -/

namespace Sys2Proof.Machine

/-- The item has an entry for the station in its trigger queue or train slot (R72). -/
def StationTriggers.holds (tag : Tag) (bank : BankName) (t : StationTriggers) : Bool :=
  t.queue.any (fun e => e.tag == tag && e.bank == bank)
    || (match t.slot with | some tr => tr.tag == tag && tr.bank == bank | none => false)

/-- The trigger of an item's station, built from its bank (R71, R74). -/
def triggerEntry (i : Item) (st : Station) (s : State) : TriggerEntry :=
  { tag := i.tag, bank := i.bank, strobe := (planOf i.bank s).stations[st].strobe,
    exposure := (planOf i.bank s).stations[st].exposure }

/-- The train of a trigger, started now with the bit period in force (R75). -/
def trainOf (e : TriggerEntry) (s : State) : Train :=
  { word := triggerWord e.tag e.bank e.strobe e.exposure, tag := e.tag, bank := e.bank,
    period := s.port.settings.bitPeriod, start := s.pos.time }

/-- A train starts on a station's trigger line (R75). -/
def startTrain (st : Station) (e : TriggerEntry) (s : State) : State :=
  updTrig st (fun t => { t with slot := some (trainOf e s) }) s

/-- A trigger that falls due in RUN (R73): its train starts, it is queued, or it is OVERRUN. -/
def handTrigger (i : Item) (st : Station) (s : State) : State :=
  match s.trig[st].slot with
  | none => startTrain st (triggerEntry i st s) s
  | some _ =>
    if s.trig[st].queue.length < Config.triggerQueueCapacity then
      updTrig st (fun t => { t with queue := t.queue ++ [triggerEntry i st s] }) s
    else stationFault (setStation i.tag st .overrun s)

/-- The station of the item falls due now (R72). -/
def fallsDue (i : Item) (st : Station) (s : State) : Bool :=
  i.stations[st] == .waiting && !s.trig[st].holds i.tag i.bank
    && positionReached (pointAt i.entry (planOf i.bank s).stations[st].offset) s

/-- One station of one item at an examination (R72): by the mode, RUN or TRACK_ONLY; nothing falls due in HALT. -/
def examineStation (i : Item) (st : Station) (s : State) : State :=
  if fallsDue i st s then
    match s.port.mode with
    | .run => handTrigger i st s
    | .trackOnly => setStation i.tag st .skipped s
    | .halt => s
  else s

/-- The Trigger Unit examines the record that carries a tag (R72, R77). -/
def examineTriggers (tag : Tag) (s : State) : State :=
  match itemOf? tag s with
  | some i => allStations.foldl (fun t st => examineStation i st t) s
  | none => s

/-- The Trigger Unit examines every live item, in queue order (R72). -/
def examineAllTriggers (s : State) : State :=
  (s.queue.items.map Item.tag).foldl (fun t tag => examineTriggers tag t) s

/-- The time at which a train ends: 26 bit periods after its start (R75). -/
def Train.endTime (t : Train) : Word32 :=
  after t.start (Config.trainPeriods * t.period)

/-- The level of a station's trigger line (R71, R75) in eighth `k` of the microsecond that the time count shows: low while
the train slot is empty, the train's pulses while it is full. -/
def triggerLine (st : Station) (k : Fin 8) (s : State) : Bool :=
  match s.trig[st].slot with
  | some t => t.level (((s.pos.time - t.start).toNat * 8 + k.val) / t.period)
  | none => false

/-- The end of a train recorded for its item (R76): a live item whose station is still WAITING becomes TRIGGERED and its
camera timeout starts; otherwise nothing is recorded. -/
def recordTrainEnd (st : Station) (tr : Train) (s : State) : State :=
  match liveItem? tr.tag tr.bank s with
  | some i =>
    if i.stations[st] = .waiting then
      updTrig st (fun t => { t with timeouts := t.timeouts ++ [{ tag := tr.tag, bank := tr.bank,
                                                                 expiry := after s.pos.time s.port.settings.cameraTimeout }] })
        (setStation tr.tag st .triggered s)
    else s
  | none => s

/-- The train slot is emptied, and the head of the trigger queue leaves it and starts at once (R76). -/
def nextTrain (st : Station) (s : State) : State :=
  match s.trig[st].queue with
  | [] => updTrig st (fun t => { t with slot := none }) s
  | e :: rest => updTrig st (fun t => { t with slot := some (trainOf e s), queue := rest }) s

/-- The train in a station's slot has ended: the close of its second idle period has been reached (R76). -/
def trainDue (st : Station) (s : State) : Option Train :=
  match s.trig[st].slot with
  | some tr => if timeReached tr.endTime s then some tr else none
  | none => none

/-- The oldest entry of a station's timeout list, where its expiry has been reached (R78). -/
def timeoutDue (st : Station) (s : State) : Option TimeoutEntry :=
  match s.trig[st].timeouts with
  | e :: _ => if timeReached e.expiry s then some e else none
  | [] => none

/-- An entry expires (R78): it leaves the list, and a TRIGGERED station becomes MISSING, raised and counted. -/
def expireTimeout (st : Station) (e : TimeoutEntry) (s : State) : State :=
  let removed := updTrig st (fun t => { t with timeouts := t.timeouts.tail }) s
  match liveItem? e.tag e.bank s with
  | some i => if i.stations[st] = .triggered then stationFault (setStation e.tag st .missing removed) else removed
  | none => removed

/-- The item of a queued trigger becomes SKIPPED at the station (R82). -/
def skipQueued (st : Station) (s : State) : State :=
  s.trig[st].queue.foldl (fun t e => if (liveItem? e.tag e.bank t).isSome then setStation e.tag st .skipped t else t)
    (updTrig st (fun t => { t with queue := [] }) s)

/-- Entering TRACK_ONLY or HALT removes every queued trigger, and the stations concerned become SKIPPED (R82). -/
def skipAllQueued (s : State) : State :=
  allStations.foldl (fun t st => skipQueued st t) s

/-- TRIGGER_EXAMINATION_AT_CREATION (R77). -/
def execTriggerExaminationAtCreation (tag : Tag) (s : State) : Host.Outcome State Fault Refusal :=
  .next (examineTriggers tag s)

/-- TRAIN_END (R76); a train that has not reached its end changes nothing (log 2). -/
def execTrainEnd (st : Station) (s : State) : Host.Outcome State Fault Refusal :=
  .next (match trainDue st s with
    | some tr => nextTrain st (recordTrainEnd st tr s)
    | none => s)

/-- CAMERA_TIMEOUT_EXPIRY (R78); an entry that has not reached its expiry changes nothing (log 2). -/
def execCameraTimeoutExpiry (st : Station) (s : State) : Host.Outcome State Fault Refusal :=
  .next (match timeoutDue st s with
    | some e => expireTimeout st e s
    | none => s)

end Sys2Proof.Machine
end

