-- ==== Sys2Proof/Machine/Gates.lean ====
section
/-! DEFINITION. The Gate Unit (chapter 9): placing, starting, holding, ending, cutting and missing fires; recovery; the lamp. -/

namespace Sys2Proof.Machine

/-- The fire of an item for a gate (R147): start at the entry position plus the gate's offset, end a fire width beyond. -/
def fireOf (g : Gate) (i : Item) (s : State) : Fire :=
  { tag := i.tag, start := pointAt i.entry ((planOf i.bank s).gateOffset g),
    stop := pointAt i.entry ((planOf i.bank s).gateOffset g) + (planOf i.bank s).width.setWidth 32, status := .scheduled }

/-- A fire placed on a gate's list with status SCHEDULED (R147). -/
def placeFire (g : Gate) (i : Item) (s : State) : State :=
  updGate g (fun t => { t with fires := insertFire (fireOf g i s) t.fires }) s

/-- The start of a fire is reached (R148). -/
def Fire.startReached (f : Fire) (s : State) : Bool :=
  positionReached f.start s

/-- The end of a fire is reached (R148). -/
def Fire.stopReached (f : Fire) (s : State) : Bool :=
  positionReached f.stop s

/-- A SCHEDULED entry starts (R148), by the gate's output state when it is handled: FIRED, MERGED or HELD (R149). -/
def startFire (g : Gate) (tag : Tag) (s : State) : State :=
  match (gateOf g s).output with
  | .idle => setGateOutcome tag .firing .fired (updGate g (fun t => { t.setStatus tag .on with output := .on }) s)
  | .on => setGateOutcome tag .firing .merged (updGate g (GateState.setStatus tag .on) s)
  | .recovery _ => updGate g (GateState.setStatus tag .held) s

/-- The starts of one examination of a gate, in list order (R148). -/
def startFires (g : Gate) (s : State) : State :=
  (((gateOf g s).fires.filter fun f => f.status == .scheduled && f.startReached s).map Fire.tag).foldl
    (fun t tag => startFire g tag t) s

/-- The recovery gap of a gate (R156). -/
def recoveryGap (g : Gate) (s : State) : Nat :=
  match g with
  | .reject => s.port.settings.rejectGap
  | .rework => s.port.settings.reworkGap

/-- The output goes off (R150): to RECOVERY where the gate's recovery gap is above 0, otherwise to IDLE. -/
def outputOff (g : Gate) (s : State) : GateOutput :=
  if recoveryGap g s = 0 then .idle else .recovery (after s.pos.time (recoveryGap g s))

/-- The item of an ended fire becomes PASSED and keeps its gate outcome (R150). -/
def passItem (tag : Tag) (s : State) : State :=
  updItem tag (fun i => { i with phase := .passed }) s

/-- An ON entry whose end is reached (R150). -/
def Fire.endsNow (s : State) (f : Fire) : Bool :=
  f.status == .on && f.stopReached s

/-- The ends of one examination of a gate (R150). -/
def endFires (g : Gate) (s : State) : State :=
  let ended := (gateOf g s).fires.filter (Fire.endsNow s)
  let left := (gateOf g s).fires.filter fun f => !f.endsNow s
  let off := (gateOf g s).output == .on && left.all fun f => f.status != .on
  ended.foldl (fun t f => passItem f.tag t)
    (updGate g (fun t => { fires := left, output := if off then outputOff g s else t.output }) s)

/-- The Gate Unit examines one gate at a count: starts before ends (R148, R150). -/
def examineGate (g : Gate) (s : State) : State :=
  endFires g (startFires g s)

/-- The Gate Unit examines both lists at a count, and items that became PASSED may retire (R148, R150, R16). The head is examined
at the end of the Gate Unit's turn whether or not a fire has ended in it, and so ahead of the Item Queue's own turn: DESIGN
CHOICE, log 3. -/
def examineGates (s : State) : State :=
  examineHead (examineGate .rework (examineGate .reject s))

/-- The SCHEDULED entry of an item on a gate's list. -/
def scheduledFire? (g : Gate) (tag : Tag) (s : State) : Option Fire :=
  (gateOf g s).fires.find? fun f => f.tag == tag && f.status == .scheduled

/-- The Gate Unit's own examination of a newly placed entry (R147): missed where its end is reached, started where its
start is reached, untouched otherwise. -/
def examinePlaced (g : Gate) (f : Fire) (s : State) : State :=
  if f.startReached s then (if f.stopReached s then missFire g f.tag s else startFire g f.tag s) else s

/-- A HELD entry at the recovery expiry (R151): missed where its end is reached, a late start otherwise. -/
def releaseHeld (g : Gate) (f : Fire) (s : State) : State :=
  if f.stopReached s then missFire g f.tag s
  else bump .lateFires (raise .lateFire (setGateOutcome f.tag .firing .lateFire
    (updGate g (fun t => { t.setStatus f.tag .on with output := .on }) s)))

/-- A gate leaves RECOVERY (R151): its HELD entries are handled in list order, and the output goes ON if one started,
to IDLE otherwise. -/
def leaveRecovery (g : Gate) (s : State) : State :=
  ((gateOf g s).fires.filter fun f => f.status == .held).foldl (fun t f => releaseHeld g f t)
    (updGate g (fun t => { t with output := .idle }) s)

/-- The gate's recovery expiry has been reached (R151). -/
def recoveryDue (g : Gate) (s : State) : Bool :=
  match (gateOf g s).output with
  | .recovery e => timeReached e s
  | .idle => false
  | .on => false

/-- An item cut (R153): PASSED with gate outcome CUT, raised and counted. -/
def cutItem (tag : Tag) (s : State) : State :=
  bump .gateCuts (raise .gateCut (setGateOutcome tag .passed .cut s))

/-- A gate at the halt input's rising edge under CUT (R153): an ON gate goes IDLE and its ON entries are cut. -/
def cutGate (g : Gate) (s : State) : State :=
  match (gateOf g s).output with
  | .on =>
    ((gateOf g s).fires.filter fun f => f.status == .on).foldl (fun t f => cutItem f.tag t)
      (updGate g (fun t => { output := .idle, fires := t.fires.filter fun f => f.status != .on }) s)
  | .idle => s
  | .recovery _ => s

/-- The gates at a rising edge of the halt input, by the halt mode (R153). -/
def gatesAtHalt (s : State) : State :=
  match s.port.settings.haltMode with
  | .cut => examineHead (cutGate .rework (cutGate .reject s))
  | .hold => s

/-- The lamp's next toggle is due (R157). -/
def blinkDue (s : State) : Bool :=
  (s.gates.lamp.state == .slow || s.gates.lamp.state == .fast) && timeReached s.gates.lamp.toggleAt s

/-- GATE_EXAMINATION_AFTER_PLACING (R147). -/
def execGateExaminationAfterPlacing (tag : Tag) (s : State) : Host.Outcome State Fault Refusal :=
  .next (match scheduledFire? .reject tag s with
    | some f => examineHead (examinePlaced .reject f s)
    | none =>
      match scheduledFire? .rework tag s with
      | some f => examineHead (examinePlaced .rework f s)
      | none => s)

/-- RECOVERY_EXPIRY (R151); a gate whose expiry has not been reached is unchanged (log 2). -/
def execRecoveryExpiry (g : Gate) (s : State) : Host.Outcome State Fault Refusal :=
  .next (if recoveryDue g s then examineHead (leaveRecovery g s) else s)

/-- HALT_INPUT_RISING_EDGE (R34, R153): a HIGH sample after a LOW one raises HALT_INPUT and is handed to the gates. -/
def execHaltInputRisingEdge (s : State) : Host.Outcome State Fault Refusal :=
  .next (if s.pos.halt then s else gatesAtHalt (raise .haltInput { s with pos.halt := true }))

/-- HALT_INPUT_FALLING_EDGE (R34, R153): the held level becomes LOW; the gates change nothing and no event is raised. -/
def execHaltInputFallingEdge (s : State) : Host.Outcome State Fault Refusal :=
  .next { s with pos.halt := false }

/-- LAMP_BLINK_TOGGLE (R157); a toggle that is not due changes nothing (log 2). -/
def execLampBlinkToggle (s : State) : Host.Outcome State Fault Refusal :=
  .next (if blinkDue s then
      { s with gates.lamp.output := !s.gates.lamp.output,
               gates.lamp.toggleAt := after s.gates.lamp.toggleAt (halfBlink s.gates.lamp.state) }
    else s)

end Sys2Proof.Machine
end

