-- ==== Sys2Proof/Machine/Decisions.lean ====
section
/-! DEFINITION. The Decision Unit (chapter 4): VERDICT, FORCE DECISION and the decision at the decision point. -/

namespace Sys2Proof.Machine

/-- Some enabled station is faulty or still unresolved (R61, case 5). -/
def Item.hasFault (i : Item) : Bool :=
  i.stations.toList.any fun o => o.faulty || o.unresolved

/-- The action and cause of a decision taken now: the first case of R61's table that holds. -/
def judge (i : Item) (s : State) : Decision :=
  match i.force, i.verdict with
  | some a, _ => { action := a, cause := .forced }
  | none, some v => { action := v.action, cause := .verdict }
  | none, none =>
    if s.port.mode = .trackOnly then { action := s.port.settings.defaultTrackOnly, cause := .trackOnly }
    else if s.link.state ≠ .up then { action := s.port.settings.defaultLinkDown, cause := .linkDown }
    else if i.hasFault then { action := s.port.settings.defaultStationFault, cause := .stationFault }
    else { action := s.port.settings.defaultNoVerdict, cause := .noVerdict }

/-- The causes of a default decision (R62). -/
def Cause.isDefault : Cause → Bool
  | .trackOnly => true
  | .linkDown => true
  | .stationFault => true
  | .noVerdict => true
  | .forced => false
  | .verdict => false

/-- A station outcome after R63: WAITING and TRIGGERED become MISSING. -/
def StationOutcome.atDecision (o : StationOutcome) : StationOutcome :=
  if o.unresolved then .missing else o

/-- The record after its decision: the decision field, the stations of R63 and the phase of R64. -/
def Item.decidedBy (d : Decision) (i : Item) : Item :=
  { i with stations := onEach StationOutcome.atDecision i.stations
           decision := some d
           phase := if d.action = .accept then .passed else .decided }

/-- Auto-keep applies (R66); `i` is the record after R63. -/
def autoKeeps (i : Item) (d : Decision) (s : State) : Bool :=
  match s.port.settings.autoKeep with
  | .none => false
  | .onReject => d.action == .reject
  | .onDefault => d.cause.isDefault
  | .onFault => i.stations.toList.any StationOutcome.faulty

/-- A frame record at its item's decision: the class change of R65 and the mark of R66. -/
def FrameRecord.atDecision (kept : Bool) (r : FrameRecord) : FrameRecord :=
  { r with cls := (match r.cls with
                   | .deadline => if r.best = .full then .done else .background
                   | .background => .background
                   | .done => .done
                   | .none => .none)
           k0 := r.k0 || kept }

/-- The item's frame records change at its decision, in ascending order of station (R65, R66, R112, R116). -/
def framesAtDecision (i : Item) (kept : Bool) (s : State) : State :=
  allStations.foldl (fun t st => match references i st t with
    | some id => updFrame id (FrameRecord.atDecision kept) t
    | none => t) s

/-- Each station that R63 makes MISSING is raised and counted. -/
def missingAtDecision (i : Item) (s : State) : State :=
  allStations.foldl (fun t st => if i.stations[st].unresolved then stationFault t else t) s

/-- A default decision is raised and counted (R62). -/
def noteDefault (d : Decision) (s : State) : State :=
  if d.cause.isDefault then bump .defaultDecisions (raise .defaultDecision s) else s

/-- The Gate Unit is handed a fire (R64, R147), or an accepted head may retire (R16). The head is examined after an ACCEPT of any
item, behind the decision report: DESIGN CHOICE, logs 3 and 10. -/
def carryOut (i : Item) (d : Decision) (s : State) : State :=
  match d.action.gate? with
  | some g => placeFire g i s
  | none => examineHead s

/-- An item is decided, in one step (R61 to R67). -/
def decide_ (i : Item) (s : State) : State :=
  let d := judge i s
  let decided := i.decidedBy d
  let kept := autoKeeps decided d s
  let marked := updItem i.tag (Item.decidedBy d) (removeTriggers i.tag i.bank (missingAtDecision i s))
  let framed := framesAtDecision decided kept (noteDefault d marked)
  carryOut decided d (offerReport (reportOn .decision decided kept 0 framed) framed)

/-- The item's decision is due: undecided, not VOID, its decision point reached (R60). -/
def decisionDue (i : Item) (s : State) : Bool :=
  i.decision.isNone && i.phase != .void && positionReached (pointAt i.entry (planOf i.bank s).decision) s

/-- The Decision Unit examines the record that carries a tag (R60). -/
def examineDecision (tag : Tag) (s : State) : State :=
  match itemOf? tag s with
  | some i => if decisionDue i s then decide_ i s else s
  | none => s

/-- The Decision Unit examines every live item, oldest first (R60). -/
def examineAllDecisions (s : State) : State :=
  (s.queue.items.map Item.tag).foldl (fun t tag => examineDecision tag t) s

/-- One more revision, stopping at 255 (R56). -/
def nextRevision (r : Byte) : Byte :=
  if r = 255 then 255 else r + 1

/-- The verdict stored by a VERDICT (R56). -/
def storedVerdict (old : Option Verdict) (a : Action) (mask : Byte) : Verdict :=
  match old with
  | none => { action := a, failMask := mask, revision := 0 }
  | some v => { action := a, failMask := mask, revision := nextRevision v.revision }

/-- A VERDICT answered by the Decision Unit (R55, R56). -/
def answerVerdict (mode : Byte) (n : Word16) (action mask : Byte) (s : State) : State × Result × List Byte :=
  match actionOf action.toNat, address mode n s with
  | none, _ => (s, .invalid, [])
  | some _, .outOfRange => (s, .invalid, [])
  | some _, .noItem => (s, .noItem, [])
  | some a, .found _ i =>
    if i.phase = .void then (s, .void, bytes2 i.tag.val ++ [0] ++ decisionBytes i.decision)
    else if i.decision.isSome then (s, .late, bytes2 i.tag.val ++ [0] ++ decisionBytes i.decision)
    else
      (updItem i.tag (fun j => { j with verdict := some (storedVerdict i.verdict a mask) }) s,
       if i.verdict.isSome then .revised else .ok,
       bytes2 i.tag.val ++ [(storedVerdict i.verdict a mask).revision] ++ [0, 0, 0])

/-- A FORCE DECISION answered by the Decision Unit (R58, R59). -/
def answerForceDecision (mode : Byte) (n : Word16) (action : Byte) (s : State) : State × Result × List Byte :=
  match actionOf action.toNat, address mode n s with
  | none, _ => (s, .invalid, [])
  | some _, .outOfRange => (s, .invalid, [])
  | some _, .noItem => (s, .noItem, [])
  | some a, .found _ i =>
    if i.phase = .void then (s, .void, bytes2 i.tag.val ++ [0, 0] ++ decisionBytes i.decision)
    else if i.decision.isSome then (s, .tooLate, bytes2 i.tag.val ++ [0, 0] ++ decisionBytes i.decision)
    else
      (updItem i.tag (fun j => { j with force := some a }) s, .ok,
       bytes2 i.tag.val ++ actionBytes i.force ++ [0, 0, 0])

/-- DECISION_EXAMINATION_AT_CREATION (R60). -/
def execDecisionExaminationAtCreation (tag : Tag) (s : State) : Host.Outcome State Fault Refusal :=
  .next (examineDecision tag s)

/-- The office's VERDICT, dispatched (R55). -/
def officeVerdict (number mode : Byte) (n : Word16) (action mask : Byte) (s : State) : State :=
  goodBlock (dispatch RequestKind.verdict.code number (answerVerdict mode n action mask)) s

/-- VERDICT (R55): dispatched with the link UP. -/
def execVerdict (number mode : Byte) (n : Word16) (action mask : Byte) (s : State) : Host.Outcome State Fault Refusal :=
  .next (officeVerdict number mode n action mask (beginBlock s))

end Sys2Proof.Machine
end

