-- ==== Sys2Proof/Machine/Position.lean ====
section
/-! DEFINITION. The Position Unit (chapter 2): encoder decoding, counts, the speed window, the infeed sensor; and item
creation (1.4 to 1.6), which the sensor and ANNOUNCE ITEM share. -/

namespace Sys2Proof.Machine

/-! ## The encoder -/

/-- The place of a pair of levels in the forward order of R23. -/
def pairPlace (a b : Bool) : Nat :=
  match a, b with
  | false, false => 0
  | true, false => 1
  | true, true => 2
  | false, true => 3

/-- The other direction. -/
def Direction.opposite : Direction → Direction
  | .forward => .backward
  | .backward => .forward

/-- The direction of a step under a polarity (R23). -/
def Direction.under (d : Direction) : Polarity → Direction
  | .normal => d
  | .inverted => d.opposite

/-- The step that a change from the held pair to a new pair makes (R23): none where the pair is the same or both phases differ. -/
def decodeStep (p : Polarity) (heldA heldB a b : Bool) : Option Direction :=
  if pairPlace a b = (pairPlace heldA heldB + 1) % 4 then some (Direction.under .forward p)
  else if pairPlace heldA heldB = (pairPlace a b + 1) % 4 then some (Direction.under .backward p)
  else none

/-- A step as a signed unit. -/
def Direction.sign : Direction → Int
  | .forward => 1
  | .backward => -1

/-- The prescaler (R24): the residue after a step, and whether a count was produced. -/
def prescale (p : Nat) (residue : Int) (d : Direction) : Int × Option Direction :=
  if residue + d.sign = (p : Int) then (0, some .forward)
  else if residue + d.sign = -(p : Int) then (0, some .backward)
  else (residue + d.sign, none)

/-- A count in the Position Unit itself (R22, R28): the position moves by one, the counted direction is its direction, the
window accumulator follows. -/
def countPosition (d : Direction) (s : State) : State :=
  { s with pos.position := s.pos.position + BitVec.ofInt 32 d.sign
           pos.direction := d
           pos.windowAcc := s.pos.windowAcc + d.sign }

/-- One of the four blocks handles a count (R26). -/
def watch (w : Watcher) (s : State) : State :=
  match w with
  | .triggerUnit => examineAllTriggers s
  | .decisionUnit => examineAllDecisions s
  | .gateUnit => examineGates s
  | .itemQueue => examineHead s

/-- The order that an operand of ENCODER_STEP names: the permutations of the four watchers, by successive choices. -/
def watchers (o : WatchOrder) : List Watcher :=
  let all : List Watcher := [.triggerUnit, .decisionUnit, .gateUnit, .itemQueue]
  let rest := all.eraseIdx (o.val / 6)
  let last := rest.eraseIdx (o.val / 2 % 3)
  [all.getD (o.val / 6) .triggerUnit, rest.getD (o.val / 2 % 3) .triggerUnit, last.getD (o.val % 2) .triggerUnit,
   (last.eraseIdx (o.val % 2)).getD 0 .triggerUnit]

/-- A count (R22, R26): the position moves and the count is offered to the four watchers, in an order the manual leaves
open (log 3). -/
def count (d : Direction) (o : WatchOrder) (s : State) : State :=
  (watchers o).foldl (fun t w => watch w t) (countPosition d s)

/-- A step fed to the prescaler (R24). -/
def feedPrescaler (d : Direction) (o : WatchOrder) (s : State) : State :=
  let fed := prescale s.port.settings.prescaler s.pos.residue d
  match fed.2 with
  | some c => count c o { s with pos.residue := fed.1 }
  | none => { s with pos.residue := fed.1 }

/-- ENCODER_STEP (R23, R24): the new pair is decoded against the held one and then held. -/
def execEncoderStep (a b : Bool) (o : WatchOrder) (s : State) : Host.Outcome State Fault Refusal :=
  .next (match decodeStep s.port.settings.polarity s.pos.heldA s.pos.heldB a b with
    | some d => feedPrescaler d o { s with pos.heldA := a, pos.heldB := b }
    | none => { s with pos.heldA := a, pos.heldB := b })

/-! ## The speed window -/

/-- The sample of a window's accumulator (R28): clamped to 0 and 65,535. -/
def windowSample (acc : Int) : Nat :=
  if acc < 0 then 0 else if 65535 < acc then 65535 else acc.toNat

/-- S after a window (R29). -/
def nextSpeed (speed sample : Nat) : Nat :=
  (3 * speed + sample + 2) / 4

/-- SPEED_WINDOW_END (R28, R29); before the window's end it changes nothing (log 2). -/
def execSpeedWindowEnd (s : State) : Host.Outcome State Fault Refusal :=
  .next (if timeReached s.pos.windowEnd s then
      { s with pos.speed := nextSpeed s.pos.speed (windowSample s.pos.windowAcc)
               pos.windowAcc := 0
               pos.windowEnd := after s.pos.windowEnd Config.windowLength }
    else s)

/-! ## Item creation (R3 to R8) -/

/-- The station outcomes of a new record (R3). -/
def newStations (p : Plan) : Vector StationOutcome 8 :=
  onEach (fun st => if st.enable then .waiting else .disabled) p.stations

/-- A new record (R8). -/
def newItem (tag : Tag) (bank : BankName) (entry : Word32) (p : Plan) : Item :=
  { tag := tag, bank := bank, entry := entry, phase := .entered, stations := newStations p, verdict := none, force := none,
    decision := none, gateOutcome := .none }

/-- The pending swap is taken at a creation (R48). -/
def swapIfPending (s : State) : State :=
  if s.plans.pendingSwap then swapBanks s else s

/-- The record that a creation at an entry position appends; `s` is the state after the pending swap. -/
def itemAt (entry : Word32) (s : State) : Item :=
  newItem s.queue.nextTag s.plans.active entry (planOf s.plans.active s)

/-- A record appended at the tail: the next-tag counter advances (R4) and its bank's in-use count rises by one (R42). -/
def appendItem (i : Item) (s : State) : State :=
  updBank i.bank (fun b => { b with inUse := b.inUse + 1 })
    { s with queue.items := s.queue.items ++ [i], queue.nextTag := s.queue.nextTag + 1 }

/-- An item is created at an entry position (R8). -/
def createItem (entry : Word32) (s : State) : State :=
  appendItem (itemAt entry (swapIfPending s)) (swapIfPending s)

/-- The queue holds 128 records (R5). -/
def queueFull (s : State) : Bool :=
  decide (Config.queueCapacity ≤ s.queue.items.length)

/-- The pitch check against the youngest record (R5). -/
def pitchOk (entry : Word32) (s : State) : Bool :=
  match s.queue.items.getLast? with
  | none => true
  | some y => decide ((s.port.settings.minPitch : Int) ≤ signedDiff entry y.entry)

/-- An entry that meets a full queue is raised and counted (R5, R7). -/
def refuseFull (s : State) : State :=
  bump .untrackedItems (raise .queueFull s)

/-- A captured sensor position handed to the Item Queue (R5). -/
def offerEntry (entry : Word32) (s : State) : State :=
  if queueFull s then refuseFull s
  else if pitchOk entry s then createItem entry s
  else bump .refusedEntries (raise .entryRefused s)

/-- A rising edge of the infeed sensor is captured (R33). -/
def captures (s : State) : Bool :=
  s.port.settings.entrySource == .sensor && s.port.mode != .halt && s.pos.direction == .forward

/-- SENSOR_RISING_EDGE (R32, R33): a high sample after a low one. -/
def execSensorRisingEdge (s : State) : Host.Outcome State Fault Refusal :=
  .next (if s.pos.sensor then s
    else if captures s then offerEntry s.pos.position { s with pos.sensor := true }
    else { s with pos.sensor := true })

/-- INFEED_SENSOR_FALLING_EDGE (R32): no effect except that the held level becomes low. -/
def execInfeedSensorFallingEdge (s : State) : Host.Outcome State Fault Refusal :=
  .next { s with pos.sensor := false }

end Sys2Proof.Machine
end

