-- ==== Sys2Proof/Machine/Store.lean ====
section
/-! DEFINITION. KEEP and RELEASE (7.5), from either master. -/

namespace Sys2Proof.Machine

/-- The two keep marks (7.5): K0 of the office, K1 of the line controller. -/
inductive KeepMark where
  | k0
  | k1
  deriving DecidableEq, Repr

/-- Whether a mark is set on a record. -/
def FrameRecord.marked (m : KeepMark) (r : FrameRecord) : Bool :=
  match m with
  | .k0 => r.k0
  | .k1 => r.k1

/-- A mark set or cleared on a record. -/
def FrameRecord.withMark (m : KeepMark) (v : Bool) (r : FrameRecord) : FrameRecord :=
  match m with
  | .k0 => { r with k0 := v }
  | .k1 => { r with k1 := v }

/-- A record's mark set or cleared, with what R112, R115 and R116 then do. -/
def markFrame (m : KeepMark) (v : Bool) (id : FrameId) (s : State) : State :=
  updFrame id (FrameRecord.withMark m v) s

/-- The fields of an OK that names a frame (12.8): state, class, best copy and marks as the record stands after the request
(R113), FREE where the release has freed it (R112). Its bank and station are those of the frame that was named, since those
of a FREE record carry no meaning (R106): DESIGN CHOICE, log 31. -/
def frameMarkBody (target : Byte) (id : FrameId) (changed : Bool) (before after : FrameRecord) : List Byte :=
  [target] ++ bytes2 id.val ++ [flagByte changed, before.bank.code] ++ byte1 before.station.val
    ++ [after.state.code, after.cls.code, after.best.code, flagByte after.k0, flagByte after.k1]

/-- KEEP (`v` set) or RELEASE (`v` clear) of a named frame (R113). -/
def answerMarkFrame (m : KeepMark) (v : Bool) (target : Byte) (n tag : Word16) (s : State) : State × Result × List Byte :=
  if 1023 < n.toNat ∨ 1023 < tag.toNat then (s, .invalid, [])
  else
    let id : FrameId := Fin.ofNat 1024 n.toNat
    if (frameOf id s).state = .free ∨ (frameOf id s).tag.val ≠ tag.toNat then (s, .noFrame, [])
    else (markFrame m v id s, .ok,
          frameMarkBody target id ((frameOf id s).marked m != v) (frameOf id s) (frameOf id (markFrame m v id s)))

/-- The records that an item's stations reference, in ascending order of station (R108, R114). -/
def itemFrames (i : Item) (s : State) : List (Station × FrameId) :=
  allStations.filterMap fun st => (references i st s).map fun id => (st, id)

/-- One record in the body of an OK that names an item (12.8). -/
def itemMarkEntry (m : KeepMark) (v : Bool) (s : State) (p : Station × FrameId) : List Byte :=
  byte1 p.1.val ++ bytes2 p.2.val ++ [flagByte ((frameOf p.2 s).marked m != v)]

/-- KEEP or RELEASE of an item's frames (R114). -/
def answerMarkItem (m : KeepMark) (v : Bool) (target : Byte) (i : Item) (s : State) : State × Result × List Byte :=
  ((itemFrames i s).foldl (fun t p => markFrame m v p.2 t) s, .ok,
   [target] ++ bytes2 i.tag.val ++ byte1 (itemFrames i s).length ++ (itemFrames i s).flatMap (itemMarkEntry m v s))

/-- KEEP or RELEASE (R113, R114): target 0 a frame, 1 an item by tag, 2 an item by depth, any other INVALID (R192). -/
def answerMark (m : KeepMark) (v : Bool) (target : Byte) (n tag : Word16) (s : State) : State × Result × List Byte :=
  if target = 0 then answerMarkFrame m v target n tag s
  else if target = 1 ∨ target = 2 then
    match address (target - 1) n s with
    | .outOfRange => (s, .invalid, [])
    | .noItem => (s, .noItem, [])
    | .found _ i => answerMarkItem m v target i s
  else (s, .invalid, [])

/-- The office's KEEP, dispatched (R171). -/
def officeKeep (number target : Byte) (n tag : Word16) (s : State) : State :=
  goodBlock (dispatch RequestKind.keep.code number (answerMark .k0 true target n tag)) s

/-- The office's RELEASE, dispatched (R171). -/
def officeRelease (number target : Byte) (n tag : Word16) (s : State) : State :=
  goodBlock (dispatch RequestKind.release.code number (answerMark .k0 false target n tag)) s

end Sys2Proof.Machine
end

