-- ==== Sys2Proof/Machine/Items.lean ====
section
/-! DEFINITION. Requests about items (chapter 1): ANNOUNCE ITEM, VOID ITEM, READ ITEM, QUERY ITEM. -/

namespace Sys2Proof.Machine

/-- ANNOUNCE ITEM (R7). -/
def answerAnnounceItem (back : Word16) (s : State) : State × Result × List Byte :=
  let entry : Word32 := s.pos.position - back.setWidth 32
  if s.port.mode = .halt then (s, .wrongMode, [])
  else if s.port.settings.entrySource = .sensor then (s, .wrongMode, [])
  else if queueFull s then (refuseFull s, .full, [])
  else if !pitchOk entry s then (s, .invalid, [])
  else
    (createItem entry s, .ok,
     bytes2 s.queue.nextTag.val ++ [(itemAt entry (swapIfPending s)).bank.code] ++ bytes4 entry.toNat)

/-- A station outcome at a void (R13): WAITING becomes SKIPPED, every other outcome is kept. -/
def StationOutcome.atVoid (o : StationOutcome) : StationOutcome :=
  if o = .waiting then .skipped else o

/-- The record after a void (R13): VOID, its WAITING stations SKIPPED; verdict, force, decision and gate outcome are kept (R15). -/
def Item.voided (i : Item) : Item :=
  { i with phase := .void, stations := onEach StationOutcome.atVoid i.stations }

/-- An open deadline or background transmission on a frame is marked for abort (R132). -/
def markAbort (id : FrameId) (s : State) : State :=
  { s with
    uplink.deadline := s.uplink.deadline.map fun t => if t.frame = id then { t with abort := true } else t
    uplink.background := s.uplink.background.map fun t => if t.frame = id then { t with abort := true } else t }

/-- The item's frame records become DONE at a void, FILLING or READY, in ascending order of station (R14, R112). -/
def framesAtVoid (i : Item) (s : State) : State :=
  allStations.foldl (fun t st => match references i st t with
    | some id => updFrame id (fun r => { r with cls := .done }) (markAbort id t)
    | none => t) s

/-- The fire of an item decided REJECT or REWORK leaves that gate's list (R15). -/
def removeFire (i : Item) (s : State) : State :=
  match i.decision with
  | some d =>
    match d.action.gate? with
    | some g => updGate g (GateState.dropFire i.tag) s
    | none => s
  | none => s

/-- A record becomes VOID (R13 to R15), and a VOID head whose exit is reached retires (R16). The head is examined after the
item's frames have been released, so that the present flags of its retire report are those that R14 leaves: DESIGN CHOICE,
log 33. -/
def voidRecord (i : Item) (s : State) : State :=
  examineHead (removeFire i (framesAtVoid i (removeTriggers i.tag i.bank (updItem i.tag Item.voided s))))

/-- VOID ITEM (R12), by the phase of the record found. -/
def answerVoidItem (mode : Byte) (n : Word16) (s : State) : State × Result × List Byte :=
  match address mode n s with
  | .outOfRange => (s, .invalid, [])
  | .noItem => (s, .noItem, [])
  | .found _ i =>
    match i.phase with
    | .entered => (voidRecord i s, .ok, [i.phase.code])
    | .complete => (voidRecord i s, .ok, [i.phase.code])
    | .decided => (voidRecord i s, .ok, [i.phase.code])
    | .firing => (s, .tooLate, [])
    | .passed => (s, .tooLate, [])
    | .void => (s, .void, [])

/-- The item view of an addressed record (R10, R169), the body of READ ITEM and of QUERY ITEM. -/
def answerItemView (mode : Byte) (n : Word16) (s : State) : State × Result × List Byte :=
  match address mode n s with
  | .outOfRange => (s, .invalid, [])
  | .noItem => (s, .noItem, [])
  | .found depth i => (s, .ok, (reportOn .view i false depth s).bytes)

/-- READ ITEM from the line port (R10). -/
def answerReadItem (mode : Byte) (n : Word16) (s : State) : State × Result × List Byte :=
  answerItemView mode n s

/-- The office's QUERY ITEM, dispatched (R169). -/
def officeQueryItem (number mode : Byte) (n : Word16) (s : State) : State :=
  goodBlock (dispatch RequestKind.queryItem.code number (answerItemView mode n)) s

/-- QUERY_ITEM from the office (R169). -/
def execQueryItem (number mode : Byte) (n : Word16) (s : State) : Host.Outcome State Fault Refusal :=
  .next (officeQueryItem number mode n (beginBlock s))

end Sys2Proof.Machine
end

