-- ==== Sys2Proof/Machine/Plans.lean ====
section
/-! DEFINITION. The Plan Store's requests (chapter 3): WRITE PLAN, COMMIT PLAN, READ PLAN. -/

namespace Sys2Proof.Machine

/-- The place in the payload of the byte at which the first out-of-range field of a WRITE PLAN begins (R43 check 1, R192,
12.8): the bank byte, a station's flags byte with a bit other than 0 and 1, or a fire width of 0. Every offset and exposure
code that the layout can hold is in range. -/
def payloadFault (p : PlanPayload) : Option Nat :=
  if (bankNameOf p.bank.toNat).isNone then some 0
  else match allStations.find? fun st => decide (4 ≤ p.stations[st].flags.toNat) with
    | some st => some (1 + 5 * st.val)
    | none => if p.width = 0 then some 50 else none

/-- A station of a plan out of its payload (12.7): bit 0 of the flags byte enables, bit 1 is the strobe request. -/
def payloadStation (p : StationPayload) : StationPlan :=
  { enable := p.flags.getLsbD 0, strobe := p.flags.getLsbD 1, offset := p.offset, exposure := p.exposure }

/-- The plan that a WRITE PLAN payload carries (R44). -/
def payloadPlan (p : PlanPayload) : Plan :=
  { stations := onEach payloadStation p.stations, decision := p.decision, rejectGate := p.rejectGate,
    reworkGate := p.reworkGate, width := p.width, exit := p.exit }

/-- WRITE PLAN (R43, R44): three checks in order, then the named bank is replaced whole and becomes INVALID. -/
def answerWritePlan (p : PlanPayload) (s : State) : State × Result × List Byte :=
  match payloadFault p, bankNameOf p.bank.toNat with
  | some place, _ => (s, .invalid, byte1 place)
  | none, none => (s, .invalid, byte1 0)
  | none, some n =>
    if s.plans.pendingSwap then (s, .planPending, [])
    else if n = s.plans.active ∨ 0 < (bankOf n s).inUse then (s, .planInUse, [])
    else (updBank n (fun b => { b with plan := payloadPlan p, valid := false }) s, .ok, [n.code])

/-- The first condition of R45 that a plan fails, with the station for condition 2 and 0 otherwise; none when all six hold. -/
def Plan.firstFailure (p : Plan) : Option (Nat × Nat) :=
  if !p.stations.toList.any StationPlan.enable then some (1, 0)
  else match allStations.find? fun st => p.stations[st].enable && decide (p.decision.toNat ≤ p.stations[st].offset.toNat) with
    | some st => some (2, st.val)
    | none =>
      if p.rejectGate.toNat ≤ p.decision.toNat then some (3, 0)
      else if p.reworkGate.toNat ≤ p.decision.toNat then some (4, 0)
      else if p.exit.toNat < p.rejectGate.toNat + p.width.toNat then some (5, 0)
      else if p.exit.toNat < p.reworkGate.toNat + p.width.toNat then some (6, 0)
      else none

/-- The outcome of an accepted commit (12.1). -/
inductive CommitOutcome where
  | alreadyActive
  | swapped
  | pending
  deriving DecidableEq, Repr

def CommitOutcome.code : CommitOutcome → Byte
  | .alreadyActive => 0
  | .swapped => 1
  | .pending => 2

/-- A bank's validity written (R41). -/
def setValid (n : BankName) (v : Bool) (s : State) : State :=
  updBank n (fun b => { b with valid := v }) s

/-- COMMIT PLAN (R46): the first case of its table that applies. -/
def answerCommitPlan (bank : Byte) (s : State) : State × Result × List Byte :=
  match bankNameOf bank.toNat with
  | none => (s, .invalid, [])
  | some n =>
    if s.plans.pendingSwap then (s, .planPending, [])
    else match (planOf n s).firstFailure with
      | some (condition, station) => (setValid n false s, .planInvalid, byte1 condition ++ byte1 station)
      | none =>
        if n = s.plans.active then (setValid n true s, .ok, [n.code, CommitOutcome.alreadyActive.code])
        else if s.port.mode = .halt then (swapBanks (setValid n true s), .ok, [n.code, CommitOutcome.swapped.code])
        else ({ setValid n true s with plans.pendingSwap := true }, .ok, [n.code, CommitOutcome.pending.code])

/-- READ PLAN (R50). -/
def answerReadPlan (bank : Byte) (s : State) : State × Result × List Byte :=
  match bankNameOf bank.toNat with
  | none => (s, .invalid, [])
  | some n =>
    (s, .ok, (planOf n s).bytes n ++ [flagByte (bankOf n s).valid, flagByte (n = s.plans.active), flagByte s.plans.pendingSwap]
      ++ bytes2 s.plans.a.inUse ++ bytes2 s.plans.b.inUse)

end Sys2Proof.Machine
end

