-- ==== Sys2Proof/Machine/Ingest.lean ====
section
/-! DEFINITION. The Ingest Unit (chapter 6): headers and matching, pixels and FIFOs, trailers, the write path. -/

namespace Sys2Proof.Machine

/-! ## Ports -/

/-- One port changed. -/
def updPort (p : Station) (f : Port → Port) (s : State) : State :=
  { s with ingest.ports := s.ingest.ports.set p.val (f s.ingest.ports[p]) p.isLt }

/-- A port's parser moves to a state (R87). -/
def setParser (p : Station) (q : Parser) (s : State) : State :=
  updPort p (fun t => { t with parser := q }) s

/-- The youngest frame of a FIFO changed. -/
def onYoungest (f : FifoFrame → FifoFrame) : List FifoFrame → List FifoFrame
  | [] => []
  | [x] => [f x]
  | x :: y :: rest => x :: onYoungest f (y :: rest)

/-- The number of pixel bytes in a FIFO (R93). -/
def fifoBytes (l : List FifoFrame) : Nat :=
  (l.map fun f => f.bytes.length).sum

/-- Bytes per pixel at a depth (6.3): 1 at 8 bits, 2 at 12. -/
def bytesPerPixel (depth : Nat) : Nat :=
  if depth = 12 then 2 else 1

/-- A boundary mark that has reached the head of the FIFO of a frame cut off by truncation is removed, and the frame ends
(R98, R99). -/
def settleFifo (p : Station) (s : State) : State :=
  match s.ingest.ports[p].fifo with
  | f :: rest => if f.cut && f.marked then frameEnds f.frame (updPort p (fun t => { t with fifo := rest }) s) else s
  | [] => s

/-- The boundary mark of the open frame is placed (R93). -/
def placeMark (p : Station) (s : State) : State :=
  settleFifo p (updPort p (fun t => { t with fifo := onYoungest (fun f => { f with marked := true }) t.fifo }) s)

/-! ## Headers (R88 to R91) -/

/-- A header fault (R88, check 1). -/
def headerFault (s : State) : State :=
  bump .headerFaults (raise .headerFault s)

/-- The checks of a header's own fields (R88, check 1). -/
def headerFieldsOk (word : Word24) (width height : Nat) (depth : Nat) : Bool :=
  checkAgrees word && decide (1 ≤ width) && decide (width ≤ 8192) && decide (1 ≤ height) && decide (height ≤ 8192)
    && (depth == 8 || depth == 12)

/-- The station takes no frame (R88, check 3): DISABLED, or a frame matched already. -/
def StationOutcome.refusesFrame : StationOutcome → Bool
  | .disabled => true
  | .frame _ => true
  | .damaged _ => true
  | .lateFrame _ => true
  | .waiting => false
  | .triggered => false
  | .missing => false
  | .dropped => false
  | .overrun => false
  | .skipped => false

/-- The record of a matched frame as it becomes FILLING (R91), before its first block. -/
def fillingRecord (word : Word24) (p : Station) (width height depth : Nat) (voided : Bool) : FrameRecord :=
  { FrameRecord.freed with
    state := .filling, tag := wordTag word, bank := wordBank word, station := p, width := width, height := height,
    depth := depth, cls := if voided then .done else .none }

/-- The station of a matched frame changes from the outcome it had; a TRIGGERED station's entry leaves its timeout list (R89). -/
def stationAtHeader (i : Item) (p : Station) (after : StationOutcome) (s : State) : State :=
  let changed := setStation i.tag p after s
  if i.stations[p] = .triggered then updTrig p (StationTriggers.dropTimeout i.tag i.bank) changed else changed

/-- A matched frame that can get no record or no first block (R90). -/
def dropFrame (i : Item) (p : Station) (s : State) : State :=
  setParser p .discard (stationAtHeader i p .dropped (raise .storePressure s))

/-- The outcome of a station at a header that is stored (R89). -/
def StationOutcome.atHeader (o : StationOutcome) (id : FrameId) : StationOutcome :=
  if o = .missing then .lateFrame id else .frame id

/-- A matched frame that has its record and first block (R89, R91, R92): the parser goes to PIXELS with the frame open. -/
def openFrameOn (i : Item) (p : Station) (id : FrameId) (width height depth : Nat) (s : State) : State :=
  updPort p (fun t => { parser := .pixels { frame := id, height := height, expected := width * height * bytesPerPixel depth,
                                            received := 0, crc := crc32Start, atHeader := i.stations[p] }
                        fifo := t.fifo ++ [{ frame := id, bytes := [], marked := false, cut := false }] })
    (stationAtHeader i p (i.stations[p].atHeader id) s)

/-- A matched frame is stored or dropped (R90). -/
def storeMatched (i : Item) (p : Station) (word : Word24) (width height depth : Nat) (s : State) : State :=
  match takeRecord s with
  | none => dropFrame i p s
  | some (id, t) =>
    match allocBlock id (setFrame id (fillingRecord word p width height depth (i.phase == .void)) t) with
    | (u, true) => openFrameOn i p id width height depth u
    | (u, false) => dropFrame i p (setFrame id FrameRecord.freed u)

/-- A frame that is discarded with an event and a count (R88). -/
def discardFrame (p : Station) (e : Event) (c : Count) (s : State) : State :=
  setParser p .discard (bump c (raise e s))

/-- A header has arrived (R88): the checks in order. -/
def headerArrived (p : Station) (word : Word24) (width height depth : Nat) (s : State) : State :=
  if !headerFieldsOk word width height depth then setParser p .discard (headerFault s)
  else match liveItem? (wordTag word) (wordBank word) s with
    | none => discardFrame p .orphanFrame .orphanFrames s
    | some i =>
      if i.stations[p].refusesFrame then discardFrame p .duplicateFrame .duplicateFrames s
      else storeMatched i p word width height depth s

/-! ## Ends of frames (R93 to R95) -/

/-- The outcomes at the header whose fault is not yet counted (R95). -/
def StationOutcome.faultUncounted : StationOutcome → Bool
  | .waiting => true
  | .triggered => true
  | .skipped => true
  | .dropped => true
  | .missing => false
  | .overrun => false
  | .disabled => false
  | .frame _ => false
  | .damaged _ => false
  | .lateFrame _ => false

/-- The station of a frame that failed becomes DAMAGED, where its item is live and the station still carries the frame's
id; STATION_FAULT is raised, and counted unless the outcome at the header was counted already (R95). -/
def damageStation (f : OpenFrame) (p : Station) (s : State) : State :=
  match liveItem? (frameOf f.frame s).tag (frameOf f.frame s).bank s with
  | some i =>
    if i.stations[p].frameId? = some f.frame then
      let raised := raise .stationFault (setStation i.tag p (.damaged f.frame) s)
      if f.atHeader.faultUncounted then bump .stationFaults raised else raised
    else s
  | none => s

/-- A frame fails its check (R95): its DAMAGED flag is set and its station marked. -/
def failFrame (f : OpenFrame) (p : Station) (s : State) : State :=
  damageStation f p (setFrame f.frame { frameOf f.frame s with damaged := true } s)

/-- A frame ends without a good trailer (R94). -/
def endWithoutTrailer (f : OpenFrame) (p : Station) (s : State) : State :=
  placeMark p (failFrame f p s)

/-- The trailer's check fails (R95). -/
def trailerFails (f : OpenFrame) (rows : Word16) (crc : Word32) : Bool :=
  crc != f.crc || rows.toNat != f.height || f.received != f.expected

/-- The frame a parser has open. -/
def Parser.open? : Parser → Option OpenFrame
  | .pixels f => some f
  | .trailer f _ => some f
  | .hunt => none
  | .header _ => none
  | .discard => none

/-- A trailer has arrived (R95). -/
def trailerArrived (f : OpenFrame) (p : Station) (rows : Word16) (crc : Word32) (s : State) : State :=
  setParser p .hunt (placeMark p (if trailerFails f rows crc then failFrame f p s else s))

/-! ## Characters (the table of R87) -/

/-- A sync pattern (R87). -/
def syncPattern (p : Station) (s : State) : State :=
  match s.ingest.ports[p].parser with
  | .hunt => setParser p (.header []) s
  | .header _ => setParser p (.header []) (headerFault s)
  | .pixels f => setParser p (.header []) (endWithoutTrailer f p s)
  | .trailer f _ => setParser p (.header []) (endWithoutTrailer f p s)
  | .discard => setParser p (.header []) s

/-- An end pattern (R87). -/
def endPattern (p : Station) (s : State) : State :=
  match s.ingest.ports[p].parser with
  | .hunt => s
  | .header _ => setParser p .hunt (headerFault s)
  | .pixels f => setParser p (.trailer f []) s
  | .trailer f _ => setParser p .hunt (endWithoutTrailer f p s)
  | .discard => s

/-- A data byte in HEADER (R87): the eighth completes the header. -/
def headerByte (p : Station) (collected : List Byte) (s : State) : State :=
  if collected.length < Config.headerLength then setParser p (.header collected) s
  else headerArrived p (at3 collected 0) (at2 collected 3).toNat (at2 collected 5).toNat (at_ collected 7).toNat s

/-- A data byte in TRAILER (R87): the sixth completes the trailer. -/
def trailerByte (f : OpenFrame) (p : Station) (collected : List Byte) (s : State) : State :=
  if collected.length < Config.trailerLength then setParser p (.trailer f collected) s
  else trailerArrived f p (at2 collected 0) (at4 collected 2) s

/-! ## Pixels (R92, R93) -/

/-- The open frame with one more pixel byte received (R92). -/
def OpenFrame.receive (f : OpenFrame) (b : Byte) : OpenFrame :=
  { f with received := f.received + 1, crc := crc32Byte f.crc b }

/-- The storing of the open frame has been cut off by truncation (R98). -/
def openCut (p : Station) (s : State) : Bool :=
  match s.ingest.ports[p].fifo.getLast? with
  | some f => f.cut
  | none => false

/-- The FIFO overflows (R93): the frame is TRUNCATED and DAMAGED, its mark is placed, its station is marked, the parser
goes to DISCARD. -/
def overflow (f : OpenFrame) (p : Station) (s : State) : State :=
  setParser p .discard (placeMark p (failFrame f p (setFrame f.frame { frameOf f.frame s with truncated := true } s)))

/-- A pixel byte of the open frame (R92, R93). -/
def pixelReceived (f : OpenFrame) (p : Station) (b : Byte) (s : State) : State :=
  if f.expected < f.received + 1 || openCut p s then setParser p (.pixels (f.receive b)) s
  else if Config.fifoCapacity ≤ fifoBytes s.ingest.ports[p].fifo then overflow f p s
  else updPort p (fun t => { parser := .pixels (f.receive b)
                             fifo := onYoungest (fun g => { g with bytes := g.bytes ++ [b] }) t.fifo }) s

/-! ## The write path (R96 to R99) -/

/-- The room left in a record's current block: 0 when it is full (R97). -/
def FrameRecord.room (r : FrameRecord) : Nat :=
  Config.blockSize * r.blocks.length - r.payload

/-- The bytes that fill a record's current block, or a fresh block once that one is full (R96). -/
def FrameRecord.blockNeed (r : FrameRecord) : Nat :=
  if r.room = 0 then Config.blockSize else r.room

/-- A port is ready for the write path (R96). -/
def portReady (p : Station) (s : State) : Bool :=
  match s.ingest.ports[p].fifo with
  | f :: _ => !f.cut && (f.marked || decide ((frameOf f.frame s).blockNeed ≤ f.bytes.length))
  | [] => false

/-- The first ready port found counting up from the pointer (R96). -/
def nextReady (s : State) : Option Station :=
  (allStations.map fun k => s.ingest.pointer + k).find? fun p => portReady p s

/-- A frame's storing is cut off in a grant (R98): TRUNCATED, its bytes in the FIFO removed, the grant ended. -/
def truncateFrame (p : Station) (f : FifoFrame) (rest : List FifoFrame) (s : State) : State :=
  settleFifo p
    (updPort p (fun t => { t with fifo := { f with bytes := [], cut := true } :: rest })
      (setFrame f.frame { frameOf f.frame s with truncated := true } { s with ingest.grant := none }))

/-- A grant to a port whose head frame is `f` (R97, R98): a new block is asked for where there are bytes to write and the
current block is full. -/
def startGrant (p : Station) (f : FifoFrame) (rest : List FifoFrame) (s : State) : State :=
  if (frameOf f.frame s).room = 0 && !f.bytes.isEmpty then
    if Config.maxBlocks ≤ (frameOf f.frame s).blocks.length then truncateFrame p f rest s
    else match allocBlock f.frame s with
      | (t, true) => { t with ingest.grant := some p }
      | (t, false) => truncateFrame p f rest t
  else { s with ingest.grant := some p }

/-- The write path, free, grants a port (R96). -/
def grantPort (p : Station) (s : State) : State :=
  match s.ingest.ports[p].fifo with
  | f :: rest => startGrant p f rest { s with ingest.pointer := p + 1 }
  | [] => s

/-- The address of byte `i` of a frame in the frame store (R107). -/
def FrameRecord.byteAddress (r : FrameRecord) (i : Nat) : Option Nat :=
  (r.blocks[i / Config.blockSize]?).map fun b => Config.blockSize * b.val + i % Config.blockSize

/-- The bytes that the grant to a frame writes (R97): as many as fit in the block, or as the FIFO holds before the mark. -/
def grantBytes (f : FifoFrame) (s : State) : List Byte :=
  f.bytes.take (frameOf f.frame s).room

/-- A grant's bytes written into the current block and added to the payload (R97). -/
def writeGranted (id : FrameId) (bs : List Byte) (s : State) : State :=
  match (frameOf id s).byteAddress (frameOf id s).payload with
  | some a =>
    setFrame id { frameOf id s with payload := (frameOf id s).payload + bs.length }
      { s with store.mem := Memory.writeBytes s.store.mem a bs }
  | none => s

/-- The grant to a port ends (R97, R99). -/
def finishGrant (p : Station) (s : State) : State :=
  match s.ingest.ports[p].fifo with
  | [] => s
  | f :: rest =>
    let written := writeGranted f.frame (grantBytes f s) s
    let left : FifoFrame := { f with bytes := f.bytes.drop (grantBytes f s).length }
    if left.bytes.isEmpty && left.marked then frameEnds f.frame (updPort p (fun t => { t with fifo := rest }) written)
    else updPort p (fun t => { t with fifo := left :: rest }) written

/-! ## The commands -/

/-- The sync pattern of a header, not repeated where it has just come (log 23). -/
def beginHeader (p : Station) (s : State) : State :=
  match s.ingest.ports[p].parser with
  | .header [] => s
  | .header (_ :: _) => syncPattern p s
  | .hunt => syncPattern p s
  | .pixels _ => syncPattern p s
  | .trailer _ _ => syncPattern p s
  | .discard => syncPattern p s

/-- The end pattern of a trailer, not repeated where it has just come (log 23). -/
def beginTrailer (p : Station) (s : State) : State :=
  match s.ingest.ports[p].parser with
  | .trailer _ [] => s
  | .trailer _ (_ :: _) => endPattern p s
  | .hunt => endPattern p s
  | .header _ => endPattern p s
  | .pixels _ => endPattern p s
  | .discard => endPattern p s

/-- The end pattern of a trailer that a further pattern cuts off, not repeated where the parser is in TRAILER (log 23). -/
def reachTrailer (p : Station) (s : State) : State :=
  match s.ingest.ports[p].parser with
  | .trailer _ _ => s
  | .hunt => endPattern p s
  | .header _ => endPattern p s
  | .pixels _ => endPattern p s
  | .discard => endPattern p s

/-- The six bytes of a trailer behind its end pattern (R87): a parser that is not in TRAILER ignores them. -/
def takeTrailer (p : Station) (rows : Word16) (crc : Word32) (s : State) : State :=
  match s.ingest.ports[p].parser with
  | .trailer f _ => trailerArrived f p rows crc s
  | .hunt => s
  | .header _ => s
  | .pixels _ => s
  | .discard => s

/-- FRAME_HEADER (R87, R88). -/
def execFrameHeader (p : Station) (h : HeaderArrival) (s : State) : Host.Outcome State Fault Refusal :=
  .next (match h with
    | .pattern => syncPattern p s
    | .complete word width height depth => headerArrived p word width.toNat height.toNat depth.toNat (beginHeader p s)
    | .cutBySync => syncPattern p (beginHeader p s)
    | .cutByEnd => endPattern p (beginHeader p s))

/-- PIXEL_BYTE (R92): a data byte, by the parser's state (R87). -/
def execPixelByte (p : Station) (b : Byte) (s : State) : Host.Outcome State Fault Refusal :=
  .next (match s.ingest.ports[p].parser with
    | .pixels f => pixelReceived f p b s
    | .header l => headerByte p (l ++ [b]) s
    | .trailer f l => trailerByte f p (l ++ [b]) s
    | .hunt => s
    | .discard => s)

/-- FRAME_TRAILER (R87, R95). -/
def execFrameTrailer (p : Station) (rows : Word16) (crc : Word32) (s : State) : Host.Outcome State Fault Refusal :=
  .next (takeTrailer p rows crc (beginTrailer p s))

/-- FRAME_ENDED_WITHOUT_TRAILER (R87, R94). -/
def execFrameEndedWithoutTrailer (p : Station) (c : FrameCut) (s : State) : Host.Outcome State Fault Refusal :=
  .next (match c with
    | .pixelsByEnd => endPattern p s
    | .pixelsBySync => syncPattern p s
    | .trailerBySync => syncPattern p (reachTrailer p s)
    | .trailerByEnd => endPattern p (reachTrailer p s))

/-- WRITE_GRANT (R96); with the write path taken or no port ready there is no grant. -/
def execWriteGrant (s : State) : Host.Outcome State Fault Refusal :=
  .next (match s.ingest.grant, nextReady s with
    | none, some p => grantPort p s
    | none, none => s
    | some _, _ => s)

/-- GRANT_END (R97); with no grant in progress there is none to end. -/
def execGrantEnd (s : State) : Host.Outcome State Fault Refusal :=
  .next (match s.ingest.grant with
    | some p => finishGrant p { s with ingest.grant := none }
    | none => s)

end Sys2Proof.Machine
end

