-- ==== Sys2Proof/Machine/Uplink.lean ====
section
/-! DEFINITION. The Uplink Scheduler (chapter 8): copies and regions, the pick, the lane arbiter. -/

namespace Sys2Proof.Machine

/-! ## What a copy costs (R125) -/

/-- Division rounded up. -/
def ceilDiv (a b : Nat) : Nat :=
  (a + b - 1) / b

/-- The width W′ of a copy (R125). -/
def copyWidth (r : FrameRecord) (f : Nat) : Nat :=
  ceilDiv r.width f

/-- The height H′ of a copy (R125). -/
def copyHeight (r : FrameRecord) (f : Nat) : Nat :=
  ceilDiv r.height f

/-- The payload p of a copy (R125). -/
def copyPayload (r : FrameRecord) (f : Nat) : Nat :=
  copyWidth r f * copyHeight r f * bytesPerPixel r.depth

/-- The data segments k of a payload (R125). -/
def dataSegments (p : Nat) : Nat :=
  ceilDiv p Config.maxSegmentPayload

/-- The wire bytes w of a copy (R125). -/
def wireBytes (r : FrameRecord) (f : Nat) : Nat :=
  96 + copyPayload r f + 32 * dataSegments (copyPayload r f)

/-- The send time T_send of a copy at a lane rate (R125). -/
def sendTime (r : FrameRecord) (f rate : Nat) : Nat :=
  ceilDiv (wireBytes r f) rate

/-! ## The decimation engine (R107, R129, R130, R139) -/

/-- Byte `i` of a frame as stored, 0 beyond the stored payload (R107, R130). -/
def storedByte (r : FrameRecord) (m : List Host.Cell) (i : Nat) : Byte :=
  if i < r.payload then
    match r.byteAddress i with
    | some a => Memory.read m a
    | none => 0
  else 0

/-- A place lies within the frame. -/
def FrameRecord.covers (r : FrameRecord) (column row : Nat) : Bool :=
  decide (column < r.width) && decide (row < r.height)

/-- What a place outside the frame reads as in a region: a free value of the frame's depth (log 30). -/
def outsidePixel (r : FrameRecord) (column row : Nat) : Nat :=
  (Config.unstatedPixel column row).toNat % (if r.depth = 12 then 4096 else 256)

/-- The value of a pixel, 0 where its bytes lie wholly or partly beyond the stored payload (R130, 12.1); a place outside the
frame, which only a region opened on a smaller frame reaches (R138), has a free value (log 30). -/
def pixelValue (r : FrameRecord) (m : List Host.Cell) (column row : Nat) : Nat :=
  let k := row * r.width + column
  if !r.covers column row then outsidePixel r column row
  else if r.depth = 12 then
    if 2 * k + 1 < r.payload then (storedByte r m (2 * k)).toNat % 16 * 256 + (storedByte r m (2 * k + 1)).toNat else 0
  else (storedByte r m k).toNat

/-- The sum of a rectangle's pixel values. -/
def pixelSum (r : FrameRecord) (m : List Host.Cell) (x y w h : Nat) : Nat :=
  ((List.range h).map fun j => ((List.range w).map fun i => pixelValue r m (x + i) (y + j)).sum).sum

/-- The average of a block of n pixels (R129): floor((sum + floor(n / 2)) / n). -/
def average (sum n : Nat) : Nat :=
  (sum + n / 2) / n

/-- The output pixel of the block at (x, y), `w` by `h` pixels (R129). -/
def blockPixel (r : FrameRecord) (m : List Host.Cell) (x y w h : Nat) : Nat :=
  average (pixelSum r m x y w h) (w * h)

/-- A byte of an output pixel: one byte at depth 8; at depth 12 the upper 4 bits, then the lower 8 (12.1). -/
def pixelByteOf (depth value place : Nat) : Byte :=
  if depth = 12 then (if place = 0 then BitVec.ofNat 8 (value / 256) else BitVec.ofNat 8 value) else BitVec.ofNat 8 value

/-- Byte `i` of a copy at a factor (R129, R130). -/
def copyByte (r : FrameRecord) (m : List Host.Cell) (f i : Nat) : Byte :=
  if f = 1 then storedByte r m i
  else
    let b := bytesPerPixel r.depth
    let x := f * (i / b % copyWidth r f)
    let y := f * (i / b / copyWidth r f)
    pixelByteOf r.depth (blockPixel r m x y (min f (r.width - x)) (min f (r.height - y))) (i % b)

/-- The output width of a region (R139). -/
def regionWidth (q : Rect) (f : Nat) : Nat :=
  ceilDiv q.w f

/-- The output height of a region (R139). -/
def regionHeight (q : Rect) (f : Nat) : Nat :=
  ceilDiv q.h f

/-- The payload of a region (R139). -/
def regionPayload (r : FrameRecord) (q : Rect) (f : Nat) : Nat :=
  regionWidth q f * regionHeight q f * bytesPerPixel r.depth

/-- Byte `i` of a region at a factor (R139, R130); a pixel that is missing counts as 0 (log 14), a place outside the frame
has a free value (log 30). -/
def regionByte (r : FrameRecord) (m : List Host.Cell) (q : Rect) (f i : Nat) : Byte :=
  let b := bytesPerPixel r.depth
  let dx := f * (i / b % regionWidth q f)
  let dy := f * (i / b / regionWidth q f)
  if f = 1 then
    if !r.covers (q.x + dx) (q.y + dy) then pixelByteOf r.depth (outsidePixel r (q.x + dx) (q.y + dy)) (i % b)
    else
    let first := b * ((q.y + dy) * r.width + (q.x + dx))
    if first + b ≤ r.payload then storedByte r m (first + i % b) else 0
  else pixelByteOf r.depth (blockPixel r m (q.x + dx) (q.y + dy) (min f (q.w - dx)) (min f (q.h - dy))) (i % b)

/-- `n` bytes from `offset` on. -/
def run (byte : Nat → Byte) (offset n : Nat) : List Byte :=
  (List.range n).map fun i => byte (offset + i)

/-! ## The pick (R126, R127) -/

/-- The record is a pending deadline frame (R126). -/
def isPending (s : State) (id : FrameId) : Bool :=
  (frameOf id s).state == .ready && (frameOf id s).cls == .deadline && (frameOf id s).best == .none
    && (match s.uplink.deadline with | some t => t.frame != id | none => true)

/-- A pending deadline frame at a pick: its deadline L, its item's place in the queue and its station (R127). -/
structure Candidate where
  frame : FrameId
  deadline : Int
  place : Nat
  station : Nat
  deriving DecidableEq, Repr

/-- The candidate of a pending frame, with L from the position count and S as they stand (R126). The frame's item is the live
item that carries the frame's tag, whatever its bank, also where that item does not reference the frame: DESIGN CHOICE, log 20.
A frame whose tag no live item carries has no decision point and is none. -/
def candidate? (s : State) (id : FrameId) : Option Candidate :=
  match findTag (frameOf id s).tag.val s.queue.items 0 with
  | .found place i =>
    some { frame := id, place := place, station := (frameOf id s).station.val,
           deadline := (timeToPoint i.entry (planOf i.bank s).decision s : Int) - s.port.settings.allowance }
  | .noItem => none
  | .outOfRange => none

/-- The order of a walk (R127): by L, then by the item's place in the queue, then by station. -/
def Candidate.before (c d : Candidate) : Bool :=
  decide (c.deadline < d.deadline)
    || (c.deadline == d.deadline && (decide (c.place < d.place) || (c.place == d.place && decide (c.station ≤ d.station))))

/-- A candidate in its place in the order of the walk. -/
def insertCandidate (c : Candidate) : List Candidate → List Candidate
  | [] => [c]
  | d :: rest => if c.before d then c :: d :: rest else d :: insertCandidate c rest

/-- The pending deadline frames in the order of the walk (R127). Of two with one L, one item and one station, for which the rule
gives no further key, the lower frame id goes first: DESIGN CHOICE, log 34. -/
def walkOrder (s : State) : List Candidate :=
  ((allFrameIds.filter (isPending s)).filterMap (candidate? s)).foldr insertCandidate []

/-- The finest permitted factor whose copy fits a deadline (R127). -/
def fittingFactor (r : FrameRecord) (deadline : Int) (c : Settings) : Option Nat :=
  [1, 2, 4].find? fun f => decide (f ≤ c.maxFactor) && decide ((sendTime r f c.laneRate : Int) ≤ deadline)

/-- A frame passed over at a pick (R127): SHED set, counted the first time since it became READY. -/
def shedFrame (id : FrameId) (s : State) : State :=
  let marked := setFrame id { frameOf id s with shed := true, shedNote := true } s
  if (frameOf id s).shedNote then marked else bump .shedFrames marked

/-- What a walk finds. -/
inductive Picked where
  | nothing
  | frame (c : Candidate) (factor : Nat)
  deriving DecidableEq, Repr

/-- The walk of a pick (R127): the frames passed over are shed, the first that fits is picked. -/
def walk : List Candidate → State → State × Picked
  | [], s => (s, .nothing)
  | c :: rest, s =>
    match fittingFactor (frameOf c.frame s) c.deadline s.port.settings with
    | some f => (s, .frame c f)
    | none => walk rest (shedFrame c.frame s)

/-! ## Segments -/

/-- A segment goes onto the lane (R123). -/
def sendSegment (g : Segment) (s : State) : State :=
  { s with uplink.lane := g }

/-- A segment of a kind with nothing in its header but its payload. -/
def plainSegment (k : SegmentKind) (payload : List Byte) : Segment :=
  { kind := k, last := false, pendingFault := false, offset := 0, frame := none, number := 0, payload := payload }

/-- IDLE (R142): the link state and the free count as they stand. -/
def sendIdle (s : State) : State :=
  sendSegment (plainSegment .idle ([s.link.state.code] ++ bytes2 s.store.freeList.length)) s

/-- An ABORT owed for a kind of transmission: after CLEAR (R135), or marked by a void (R132). -/
def owedFor (k : TxKind) (s : State) : Option Abort :=
  match s.uplink.clearAborts.find? fun a => a.kind == k with
  | some a => some a
  | none =>
    match k with
    | .deadline => s.uplink.deadline.bind fun t =>
        if t.abort then some { kind := .deadline, frame := t.frame, number := 0, reason := .void } else none
    | .region => none
    | .background => s.uplink.background.bind fun t =>
        if t.abort then some { kind := .background, frame := t.frame, number := 0, reason := .void } else none

/-- The ABORT owed first: deadline, then region, then background (R124, order 0). -/
def owedAbort (s : State) : Option Abort :=
  [TxKind.deadline, .region, .background].findSome? fun k => owedFor k s

/-- An owed ABORT is sent (R124, order 0). One marked by a void closes its transmission without completion (R132, log 12);
one owed after CLEAR has no transmission and no record left (R135). -/
def sendAbort (a : Abort) (s : State) : State :=
  let sent := sendSegment (plainSegment .abort a.bytes) s
  match a.reason, a.kind with
  | .void, .deadline => reportClosing a.frame { sent with uplink.deadline := none }
  | .void, .background => reportClosing a.frame { sent with uplink.background := none }
  | .void, .region => sent
  | .clear, _ => { sent with uplink.clearAborts := sent.uplink.clearAborts.erase a }
  | .gone, _ => sent

/-- REPLY (R124 order 1, R141, R166): the oldest reply leaves the queue; the segment carries the pending-fault flag, which is cleared. -/
def sendReply (r : Reply) (rest : List Reply) (s : State) : State :=
  sendSegment { plainSegment .reply r.bytes with pendingFault := s.link.pendingFault }
    { s with uplink.replies := rest, link.pendingFault := false }

/-- REPORT (R124 order 2, R140): the oldest report leaves the queue. -/
def sendReport (r : Report) (rest : List Report) (s : State) : State :=
  sendSegment (plainSegment .report r.bytes) { s with uplink.reports := rest }

/-- The bytes that the next data segment of a payload carries (R128). -/
def nextPayload (p offset : Nat) : Nat :=
  min Config.maxSegmentPayload (p - offset)

/-- A data segment (R128, R139). -/
def dataSegment (k : SegmentKind) (id : FrameId) (number : Byte) (p offset : Nat) (byte : Nat → Byte) : Segment :=
  { kind := k, last := decide (p ≤ offset + nextPayload p offset), pendingFault := false, offset := offset, frame := some id,
    number := number, payload := run byte offset (nextPayload p offset) }

/-- The descriptor of a copy (R128, R136). -/
def copyTail (k : TxKind) (r : FrameRecord) (f : Nat) (deadline slack : Int) : DescriptorTail :=
  { kind := k, factor := f, width := copyWidth r f, height := copyHeight r f, payload := copyPayload r f,
    segments := dataSegments (copyPayload r f), deadline := deadline, slack := slack }

/-- FRAME OPEN (R123, R128). -/
def frameOpen (id : FrameId) (r : FrameRecord) (d : DescriptorTail) : Segment :=
  { plainSegment .frameOpen (descriptor id r d) with frame := some id }

/-- The next FRAME DATA segment of the deadline transmission (R128). -/
def sendDeadline (t : DeadlineTx) (s : State) : State :=
  let r := frameOf t.frame s
  let p := copyPayload r t.factor
  let g := dataSegment .frameData t.frame 0 p t.offset (copyByte r s.store.mem t.factor)
  sendSegment g { s with uplink.deadline := some { t with offset := t.offset + nextPayload p t.offset, last := g.last } }

/-- A deadline transmission opens on a picked frame (R127, R128): its SHED flag is cleared, the opening is reported, FRAME OPEN is sent. -/
def openDeadline (c : Candidate) (f : Nat) (s : State) : State :=
  let slack : Int := c.deadline - sendTime (frameOf c.frame s) f s.port.settings.laneRate
  let opened := reportOpening c.frame (setFrame c.frame { frameOf c.frame s with shed := false } s)
  sendSegment (frameOpen c.frame (frameOf c.frame opened) (copyTail .deadline (frameOf c.frame opened) f c.deadline slack))
    { opened with uplink.deadline := some { frame := c.frame, factor := f, deadline := c.deadline, slack := slack, offset := 0,
                                            last := false, abort := false } }

/-- The next REGION DATA segment of the region transmission (R139). -/
def sendRegion (t : RegionTx) (s : State) : State :=
  let r := frameOf t.frame s
  let p := regionPayload r t.rect t.factor
  let g := dataSegment .regionData t.frame t.number p t.offset (regionByte r s.store.mem t.rect t.factor)
  sendSegment g { s with uplink.region := some { t with offset := t.offset + nextPayload p t.offset, last := g.last } }

/-- The descriptor of a region (R139, 12.4). -/
def regionTail (r : FrameRecord) (e : RegionEntry) : DescriptorTail :=
  { kind := .region, factor := e.factor, width := regionWidth e.rect e.factor, height := regionHeight e.rect e.factor,
    payload := regionPayload r e.rect e.factor, segments := dataSegments (regionPayload r e.rect e.factor), deadline := 0,
    slack := 0 }

/-- A rectangle in the layout of 12.4 and 12.8. -/
def Rect.bytes (q : Rect) : List Byte :=
  bytes2 q.x ++ bytes2 q.y ++ bytes2 q.w ++ bytes2 q.h

/-- The head region entry leaves the queue, and is opened or sent as an ABORT with GONE (R138, R139). -/
def openRegion (e : RegionEntry) (rest : List RegionEntry) (s : State) : State :=
  let taken : State := { s with uplink.regions := rest }
  if (frameOf e.frame s).state = .ready ∧ (frameOf e.frame s).tag = e.tag ∧ (frameOf e.frame s).station = e.station then
    let opened := reportOpening e.frame taken
    sendSegment { plainSegment .regionOpen (descriptor e.frame (frameOf e.frame opened) (regionTail (frameOf e.frame opened) e)
                    ++ e.rect.bytes) with frame := some e.frame, number := e.number }
      { opened with uplink.region := some { number := e.number, frame := e.frame, rect := e.rect, factor := e.factor,
                                            offset := 0, last := false } }
  else sendSegment (plainSegment .abort { kind := .region, frame := e.frame, number := e.number, reason := .gone : Abort }.bytes) taken

/-- The next FRAME DATA segment of the background transmission (R136). -/
def sendBackground (t : BackgroundTx) (s : State) : State :=
  let r := frameOf t.frame s
  let p := copyPayload r 1
  let g := dataSegment .frameData t.frame 0 p t.offset (copyByte r s.store.mem 1)
  sendSegment g { s with uplink.background := some { t with offset := t.offset + nextPayload p t.offset, last := g.last } }

/-- The first frame in the background order with no frame transmission open (R136). -/
def nextBackground (s : State) : Option FrameId :=
  s.uplink.bgOrder.find? fun id => match s.uplink.deadline with | some t => t.frame != id | none => true

/-- A background transmission opens (R136). -/
def openBackground (id : FrameId) (s : State) : State :=
  let opened := reportOpening id s
  sendSegment (frameOpen id (frameOf id opened) (copyTail .background (frameOf id opened) 1 0 0))
    { opened with uplink.background := some { frame := id, offset := 0, last := false, abort := false } }

/-! ## The segment boundary (R124) -/

/-- The deadline copy whose LAST segment has just ended, with no abort owed, completes and closes (R128, R132). -/
def endDeadline (s : State) : State :=
  match s.uplink.deadline with
  | some t => if t.last && !t.abort then reportCompletion t.frame t.factor { s with uplink.deadline := none } else s
  | none => s

/-- The region whose LAST segment has just ended closes (R139). -/
def endRegion (s : State) : State :=
  match s.uplink.region with
  | some t => if t.last then reportClosing t.frame { s with uplink.region := none } else s
  | none => s

/-- The background copy whose LAST segment has just ended, with no abort owed, completes and closes (R136, R132). -/
def endBackground (s : State) : State :=
  match s.uplink.background with
  | some t => if t.last && !t.abort then reportCompletion t.frame 1 { s with uplink.background := none } else s
  | none => s

/-- The segment on the lane has ended. -/
def endSegment (s : State) : State :=
  endBackground (endRegion (endDeadline s))

/-- Order 5 and 6 of the arbiter (R124). -/
def chooseBackground (s : State) : State :=
  match s.uplink.background with
  | some t => sendBackground t s
  | none =>
    match nextBackground s with
    | some id => openBackground id s
    | none => sendIdle s

/-- Order 4 and below of the arbiter (R124). -/
def chooseRegion (s : State) : State :=
  match s.uplink.region with
  | some t => sendRegion t s
  | none =>
    match s.uplink.regions with
    | e :: rest => openRegion e rest s
    | [] => chooseBackground s

/-- Order 3 and below of the arbiter (R124): a pick is made only with no deadline transmission open. -/
def chooseDeadline (s : State) : State :=
  match s.uplink.deadline with
  | some t => sendDeadline t s
  | none =>
    match walk (walkOrder s) s with
    | (t, .frame c f) => openDeadline c f t
    | (t, .nothing) => chooseRegion t

/-- Orders 1 and 2 of the arbiter, then the rest (R124). -/
def chooseQueued (s : State) : State :=
  match s.uplink.replies with
  | r :: rest => sendReply r rest s
  | [] =>
    match s.uplink.reports with
    | r :: rest => sendReport r rest s
    | [] => chooseDeadline s

/-- The lane arbiter chooses the next segment (R124). -/
def chooseSegment (s : State) : State :=
  match s.link.state with
  | .aligning => sendIdle s
  | .up =>
    match owedAbort s with
    | some a => sendAbort a s
    | none => chooseQueued s

/-- SEGMENT_BOUNDARY (R123, R124). -/
def execSegmentBoundary (s : State) : Host.Outcome State Fault Refusal :=
  .next (chooseSegment (endSegment s))

/-! ## FETCH REGION (R137) -/

/-- A side clamped to a frame (R137). -/
def clampSide (start length bound : Nat) : Nat :=
  if bound ≤ start then 0 else min length (bound - start)

/-- The rectangle of a request clamped to a record (R137). -/
def clampRect (r : FrameRecord) (x y w h : Word16) : Rect :=
  { x := x.toNat, y := y.toNat, w := clampSide x.toNat w.toNat r.width, h := clampSide y.toNat h.toNat r.height }

/-- FETCH REGION (R137): the first case of its table that applies. -/
def answerFetchRegion (number : Byte) (frame tag x y w h : Word16) (factor : Byte) (s : State) : State × Result × List Byte :=
  if 1023 < frame.toNat ∨ 1023 < tag.toNat ∨ (factor ≠ 1 ∧ factor ≠ 2 ∧ factor ≠ 4) then (s, .invalid, [])
  else
    let id : FrameId := Fin.ofNat 1024 frame.toNat
    let r := frameOf id s
    let q := clampRect r x y w h
    if r.state = .free ∨ r.tag.val ≠ tag.toNat then (s, .gone, [])
    else if r.state = .filling then (s, .noFrame, [])
    else if q.w = 0 ∨ q.h = 0 then (s, .empty, [])
    else if Config.regionQueueCapacity ≤ s.uplink.regions.length then (s, .full, [])
    else
      ({ s with uplink.regions := s.uplink.regions ++
          [{ number := number, frame := id, tag := r.tag, station := r.station, rect := q, factor := factor.toNat }] },
       .ok, q.bytes)

/-- The office's FETCH REGION, dispatched (R137). -/
def officeFetchRegion (number : Byte) (frame tag x y w h : Word16) (factor : Byte) (s : State) : State :=
  goodBlock (dispatch RequestKind.fetchRegion.code number (answerFetchRegion number frame tag x y w h factor)) s

/-- FETCH_REGION (R137): dispatched with the link UP. -/
def execFetchRegion (number : Byte) (frame tag x y w h : Word16) (factor : Byte) (s : State) : Host.Outcome State Fault Refusal :=
  .next (officeFetchRegion number frame tag x y w h factor (beginBlock s))

end Sys2Proof.Machine
end

