-- ==== Sys2Proof/Machine/System.lean ====
section
/-! DEFINITION. The two commands that reach every block at once: CLEAR (R186 and the rules it gathers) and the reset pin (R187). -/

namespace Sys2Proof.Machine

/-! ## CLEAR, unit by unit -/

/-- The ABORT segments that CLEAR owes, one for each open transmission (R135); `number` 0 names no region. -/
def abortsAtClear (u : Uplink) : List Abort :=
  ((u.deadline.map fun t => ({ kind := .deadline, frame := t.frame, number := 0, reason := .clear } : Abort)).toList
    ++ (u.region.map fun t => ({ kind := .region, frame := t.frame, number := t.number, reason := .clear } : Abort)).toList)
    ++ (u.background.map fun t => ({ kind := .background, frame := t.frame, number := 0, reason := .clear } : Abort)).toList

/-- The Uplink Scheduler at CLEAR (R135): the reply queue and the segment on the lane are kept. ABORTs are owed with the link UP only. -/
def Uplink.cleared (u : Uplink) (l : LinkState) : Uplink :=
  { u with
    deadline := none
    region := none
    background := none
    clearAborts := (match l with | .up => u.clearAborts ++ abortsAtClear u | .aligning => [])
    reports := []
    regions := []
    bgOrder := [] }

/-- The Plan Store at CLEAR (R52): the pending swap is dropped untaken, both in-use counts are 0, the rest is kept. -/
def PlanStore.cleared (p : PlanStore) : PlanStore :=
  { p with a.inUse := 0, b.inUse := 0, pendingSwap := false }

/-- The Ingest Unit at CLEAR (R102): the round-robin pointer is kept. -/
def IngestUnit.cleared (g : IngestUnit) : IngestUnit :=
  { g with ports := Vector.replicate 8 Port.clear, grant := none }

/-- The Frame Store at CLEAR (R122): every record FREE, the free list rebuilt, the reclaim list empty; the contents of the
DRAM are kept (log 5). -/
def FrameStore.cleared (f : FrameStore) : FrameStore :=
  { f with freeList := fullFreeList, frames := Vector.replicate 1024 FrameRecord.freed, reclaim := [] }

/-- Both gates at CLEAR (R159). -/
def GateUnit.cleared (g : GateUnit) : GateUnit :=
  { g with reject := { output := .idle, fires := [] }, rework := { output := .idle, fires := [] } }

/-- The step of CLEAR (R186): what the rule lists changes, everything else is kept. -/
def clearAll (s : State) : State :=
  followLamp { s with
    queue.items := []
    plans := s.plans.cleared
    trig := Vector.replicate 8 StationTriggers.clear
    ingest := s.ingest.cleared
    store := s.store.cleared
    uplink := s.uplink.cleared s.link.state
    gates := s.gates.cleared
    port.mode := .halt
    port.flags := 0 }

/-- CLEAR answered (R186): OK, with the queue count, the records not FREE and the mode as they stood just before. -/
def answerClear (s : State) : State × Result × List Byte :=
  (clearAll s, .ok, bytes2 s.queue.items.length ++ bytes2 (framesInUse s) ++ [s.port.mode.code])

/-! ## The reset pin -/

/-- The machine after the reset pin (R187), with the input levels that its first samples find (R23, R32, R34, R37). The DRAM,
the model's counter of free values and the waiting commands are no block's reset state and are kept (log 5, log 28). -/
def afterReset (pins : Pins) (s : State) : State :=
  { State.reset with
    pos.heldA := pins.a
    pos.heldB := pins.b
    pos.sensor := pins.sensor
    pos.halt := pins.halt
    store.mem := s.store.mem
    freeCtr := s.freeCtr
    pending := s.pending }

/-- RESET_PIN (R187). -/
def execResetPin (pins : Pins) (s : State) : Host.Outcome State Fault Refusal :=
  .next (afterReset pins s)

end Sys2Proof.Machine
end

