-- ==== Sys2Proof/Machine/Requests.lean ====
section
/-! DEFINITION. The Line Port (chapter 11): transactions, the taking and answering of the nineteen requests, the responses. -/

namespace Sys2Proof.Machine

/-! ## Requests that the Line Port itself owns -/

/-- The body of READ STATUS (R179, 12.8). -/
def readStatusBody (s : State) : List Byte :=
  [s.port.mode.code, s.link.state.code] ++ bytes2 s.queue.items.length ++ bytes2 s.store.freeList.length
    ++ bytes2 s.pos.speed ++ bytes4 s.pos.position.toNat ++ bytes4 s.pos.time.toNat
    ++ [flagByte s.pos.halt, flagByte s.port.resetSeen]

/-- READ STATUS (R179): the body shows RESET_SEEN as it stood, and the taking clears it. -/
def answerReadStatus (s : State) : State × Result × List Byte :=
  ({ s with port.resetSeen := false }, .ok, readStatusBody s)

/-- The mode becomes another (R181): queued triggers are removed on entering TRACK_ONLY or HALT (R82), a pending swap is
taken on entering HALT (R49), the lamp follows (R157). -/
def enterMode (m : Mode) (s : State) : State :=
  let moved : State := { s with port.mode := m }
  match m with
  | .run => followLamp moved
  | .trackOnly => followLamp (skipAllQueued moved)
  | .halt => followLamp (swapIfPending (skipAllQueued moved))

/-- What SET MODE asks for meets (the table of R180): the result, and whether the mode changes. -/
def judgeMode (m : Mode) (s : State) : Result × Bool :=
  if m = s.port.mode then (.ok, false)
  else if m = .halt ∧ s.queue.items ≠ [] then (.notEmpty, false)
  else if s.port.mode = .halt ∧ !(bankOf s.plans.active s).valid then (.planInvalid, false)
  else (.ok, true)

/-- SET MODE (R180, R181); every response carries the mode before and the mode after. -/
def answerSetMode (mode : Byte) (s : State) : State × Result × List Byte :=
  match modeOf mode.toNat with
  | none => (s, .invalid, [s.port.mode.code, s.port.mode.code])
  | some m =>
    match judgeMode m s with
    | (result, true) => (enterMode m s, result, [s.port.mode.code, m.code])
    | (result, false) => (s, result, [s.port.mode.code, s.port.mode.code])

/-- The settings of an accepted CONFIGURE (R182); a change of prescaler or polarity sets the residue to 0 (R25, log 15). -/
def applySettings (c : Settings) (s : State) : State :=
  { s with
    port.settings := c
    pos.residue := if c.prescaler = s.port.settings.prescaler ∧ c.polarity = s.port.settings.polarity then s.pos.residue else 0 }

/-- CONFIGURE (R182). -/
def answerConfigure (items : List SettingItem) (s : State) : State × Result × List Byte :=
  if s.port.mode ≠ .halt then (s, .wrongMode, [])
  else match s.port.settings.writeAll items 0 with
    | .ok c => (applySettings c s, .ok, c.bytes)
    | .error place => (s, .invalid, byte1 place)

/-- READ CONFIGURATION (R182). -/
def answerReadConfiguration (s : State) : State × Result × List Byte :=
  (s, .ok, s.port.settings.bytes)

/-- The flags and the enables (R183, R184, 12.8). -/
def eventsBody (s : State) : List Byte :=
  bytes2 s.port.flags.toNat ++ bytes2 s.port.enables.toNat

/-- READ EVENTS (R183). -/
def answerReadEvents (s : State) : State × Result × List Byte :=
  (s, .ok, eventsBody s)

/-- An answer that carries the flags and enables as they stand after the request (R184). -/
def withEvents (t : State) : State × Result × List Byte :=
  (t, .ok, eventsBody t)

/-- CLEAR EVENTS (R184): each marked flag is cleared. -/
def answerClearEvents (marks : Word16) (s : State) : State × Result × List Byte :=
  withEvents { s with port.flags := s.port.flags &&& ~~~marks }

/-- SET EVENTS (R184): each marked flag is set, with no count. -/
def answerSetEvents (marks : Word16) (s : State) : State × Result × List Byte :=
  withEvents { s with port.flags := s.port.flags ||| marks }

/-- SET EVENT ENABLES (R184): the whole set is replaced. -/
def answerSetEventEnables (enables : Word16) (s : State) : State × Result × List Byte :=
  withEvents { s with port.enables := enables }

/-- The fourteen counts in the order of R185's table (12.8). -/
def countsBody (s : State) : List Byte :=
  s.port.counts.toList.flatMap fun c => bytes2 c.toNat

/-- READ COUNTS (R185): a clearing read sets every count to 0 in the same step; a choice beyond 1 is INVALID (R192). -/
def answerReadCounts (clearAfter : Byte) (s : State) : State × Result × List Byte :=
  if clearAfter = 0 then (s, .ok, countsBody s)
  else if clearAfter = 1 then ({ s with port.counts := Vector.replicate 14 0 }, .ok, countsBody s)
  else (s, .invalid, [])

/-! ## Taking a request (R176, R177) -/

/-- The owner's answer to a request, against the state as it stands (R177). -/
def ownerAnswer (r : LineRequest) (s : State) : State × Result × List Byte :=
  match r with
  | .readStatus => answerReadStatus s
  | .setMode mode => answerSetMode mode s
  | .configure items => answerConfigure items s
  | .readConfiguration => answerReadConfiguration s
  | .writePlan plan => answerWritePlan plan s
  | .commitPlan bank => answerCommitPlan bank s
  | .readPlan bank => answerReadPlan bank s
  | .announceItem back => answerAnnounceItem back s
  | .voidItem mode number => answerVoidItem mode number s
  | .forceDecision mode number action => answerForceDecision mode number action s
  | .readItem mode number => answerReadItem mode number s
  | .keep target number tag => answerMark .k1 true target number tag s
  | .release target number tag => answerMark .k1 false target number tag s
  | .readEvents => answerReadEvents s
  | .clearEvents marks => answerClearEvents marks s
  | .setEvents marks => answerSetEvents marks s
  | .setEventEnables enables => answerSetEventEnables enables s
  | .readCounts clearAfter => answerReadCounts clearAfter s
  | .clear => answerClear s

/-- The answer to a taken request: INVALID at once where its length does not fit its layout, the owner's otherwise (R176). -/
def answerTaken (r : LineRequest) (s : State) : State × Result × List Byte :=
  if r.lengthOk then ownerAnswer r s else (s, .invalid, [])

/-- A request has been taken (R176, R177): the response is no longer held, and the port is BUSY with the answer, which
begins with the request code and the result code (12.7). -/
def holdAnswer (code : Byte) (a : State × Result × List Byte) : State :=
  { a.1 with port.buffer := .busy (code :: a.2.1.code :: a.2.2) }

/-- A write that ends while BUSY (R176): nothing is taken, REFUSED is set. -/
def refuseWrite (s : State) : State :=
  { s with port.refused := true }

/-- In a WRITE REQUEST every byte the port sends is 0 (12.7); with its end no transaction is in progress (R175). -/
def sendZeros (n : Nat) (s : State) : State :=
  { s with port.bus := .idle, port.spiOut := zeros n }

/-- The end of a WRITE REQUEST that carries one of the nineteen requests (R176, R177). -/
def takeRequest (r : LineRequest) (s : State) : State :=
  if busy s then refuseWrite (sendZeros r.transaction.length s)
  else holdAnswer r.code (answerTaken r (sendZeros r.transaction.length s))

/-! ## READ RESPONSE (R175) -/

/-- What follows the status byte in a READ RESPONSE: the length and the body of the response held; nothing while BUSY. -/
def responseBytes (s : State) : List Byte :=
  match s.port.buffer with
  | .vacant => [0]
  | .busy _ => []
  | .ready r => BitVec.ofNat 8 r.length :: r

/-- The byte that stands `k` places behind the status byte (R175): 0 while BUSY, else the response, else a free value (log 6). -/
def byteBehindStatus (s : State) (k : Nat) : Byte :=
  match (responseBytes s)[k]? with
  | some b => b
  | none => if busy s then 0 else Config.unstatedByte (s.freeCtr + (k - (responseBytes s).length))

/-- The byte in place `i` of what the port sends in a READ RESPONSE (R175, 12.7). -/
def sentByte (s : State) (i : Nat) : Byte :=
  match i with
  | 0 => 0
  | 1 => statusByte s
  | k + 2 => byteBehindStatus s k

/-- The free values that a READ RESPONSE of `clocked` bytes draws (log 6). -/
def freeDrawn (s : State) (clocked : Nat) : Nat :=
  if busy s then 0 else clocked - 2 - (responseBytes s).length

/-- READ RESPONSE (R175): nothing changes but REFUSED, which the sending of the status byte clears (R178, log 18); with its end
no transaction is in progress. -/
def readResponse (clocked : Nat) (s : State) : State :=
  { s with
    port.bus := .idle
    port.spiOut := (List.range clocked).map (sentByte s)
    port.refused := s.port.refused && decide (clocked < 2)
    freeCtr := s.freeCtr + freeDrawn s clocked }

/-- A write transaction that is none of the nineteen requests, at the release of chip select (R176). -/
def badWrite (code : Byte) (s : State) : State :=
  if busy s then refuseWrite s else holdAnswer code (s, .invalid, [])

/-- A transaction of bytes that the master sent (R175, R176): a first byte of 0 makes it a READ RESPONSE (12.7, log 24). -/
def transaction (bytes : List Byte) (s : State) : State :=
  match bytes with
  | [] => sendZeros 0 s
  | [b] => if b = 0 then readResponse 1 s else sendZeros 1 s
  | b :: c :: rest =>
    if b = 0 then readResponse (rest.length + 2) s
    else match transactionRequest (b :: c :: rest) with
      | some r => takeRequest r s
      | none => badWrite b (sendZeros (rest.length + 2) s)

/-! ## The bus, event by event (R175) -/

/-- The port has sent a byte, and the transaction goes on as `q`. -/
def sendByte (b : Byte) (q : BusState) (s : State) : State :=
  { s with port.bus := q, port.spiOut := s.port.spiOut ++ [b] }

/-- Chip select is asserted (R175): a transaction begins; one that finds a transaction in progress changes nothing (log 32). -/
def assertSelect (s : State) : State :=
  match s.port.bus with
  | .idle => { s with port.bus := .begun, port.spiOut := [] }
  | .begun => s
  | .writing _ => s
  | .reading => s
  | .sending _ _ => s

/-- A byte behind the status byte of a READ RESPONSE (R175): 0 where that showed BUSY, else the response, else a free value
(log 6); what is sent there was settled with the status byte (log 32). -/
def sendBehindStatus (zeros : Bool) (rest : List Byte) (s : State) : State :=
  if zeros then sendByte 0 (.sending true rest) s
  else match rest with
    | b :: left => sendByte b (.sending false left) s
    | [] => { sendByte (Config.unstatedByte s.freeCtr) (.sending false []) s with freeCtr := s.freeCtr + 1 }

/-- A byte of the master (R175, 12.7): the first tells the two kinds apart, a WRITE REQUEST collects the others, and in a READ
RESPONSE they are not read; with no transaction in progress a byte is ignored (log 32). -/
def shiftByte (b : Byte) (s : State) : State :=
  match s.port.bus with
  | .idle => s
  | .begun => sendByte 0 (if b = 0 then .reading else .writing [b]) s
  | .writing l => sendByte 0 (.writing (l ++ [b])) s
  | .reading => { sendByte (statusByte s) (.sending (busy s) (responseBytes s)) s with port.refused := false }
  | .sending zeros rest => sendBehindStatus zeros rest s

/-- Chip select is released (R175, R176): a WRITE REQUEST is judged, a READ RESPONSE stops where it is. -/
def releaseSelect (s : State) : State :=
  match s.port.bus with
  | .idle => s
  | .begun => { s with port.bus := .idle }
  | .writing l => transaction l s
  | .reading => { s with port.bus := .idle }
  | .sending _ _ => { s with port.bus := .idle }

/-- The response is placed (R177): BUSY clears and READY is set. -/
def placeResponse (s : State) : State :=
  match s.port.buffer with
  | .busy a => { s with port.buffer := .ready a }
  | .vacant => s
  | .ready _ => s

/-! ## The commands -/

/-- READ_RESPONSE (R175). -/
def execReadResponse (clocked : Nat) (s : State) : Host.Outcome State Fault Refusal :=
  .next (readResponse clocked s)

/-- WRITE_REQUEST (R175, R176), and the single events of the bus (log 8). -/
def execWriteRequest (arrival : BusArrival) (s : State) : Host.Outcome State Fault Refusal :=
  .next (match arrival with
    | .transaction bytes => transaction bytes s
    | .chipSelect => assertSelect s
    | .busByte b => shiftByte b s
    | .release => releaseSelect s)

/-- RESPONSE_PLACED (R177); with no request in hand there is no response to place. -/
def execResponsePlaced (s : State) : Host.Outcome State Fault Refusal :=
  .next (placeResponse s)

/-- READ_STATUS (R179). -/
def execReadStatus (s : State) : Host.Outcome State Fault Refusal :=
  .next (takeRequest .readStatus s)

/-- SET_MODE (R180). -/
def execSetMode (mode : Byte) (s : State) : Host.Outcome State Fault Refusal :=
  .next (takeRequest (.setMode mode) s)

/-- CONFIGURE (R182). -/
def execConfigure (items : List SettingItem) (s : State) : Host.Outcome State Fault Refusal :=
  .next (takeRequest (.configure items) s)

/-- READ_CONFIGURATION (R182). -/
def execReadConfiguration (s : State) : Host.Outcome State Fault Refusal :=
  .next (takeRequest .readConfiguration s)

/-- WRITE_PLAN (R43). -/
def execWritePlan (plan : PlanPayload) (s : State) : Host.Outcome State Fault Refusal :=
  .next (takeRequest (.writePlan plan) s)

/-- COMMIT_PLAN (R46). -/
def execCommitPlan (bank : Byte) (s : State) : Host.Outcome State Fault Refusal :=
  .next (takeRequest (.commitPlan bank) s)

/-- READ_PLAN (R50). -/
def execReadPlan (bank : Byte) (s : State) : Host.Outcome State Fault Refusal :=
  .next (takeRequest (.readPlan bank) s)

/-- ANNOUNCE_ITEM (R7). -/
def execAnnounceItem (back : Word16) (s : State) : Host.Outcome State Fault Refusal :=
  .next (takeRequest (.announceItem back) s)

/-- VOID_ITEM (R12). -/
def execVoidItem (mode : Byte) (number : Word16) (s : State) : Host.Outcome State Fault Refusal :=
  .next (takeRequest (.voidItem mode number) s)

/-- FORCE_DECISION (R58). -/
def execForceDecision (mode : Byte) (number : Word16) (action : Byte) (s : State) : Host.Outcome State Fault Refusal :=
  .next (takeRequest (.forceDecision mode number action) s)

/-- READ_ITEM (R10). -/
def execReadItem (mode : Byte) (number : Word16) (s : State) : Host.Outcome State Fault Refusal :=
  .next (takeRequest (.readItem mode number) s)

/-- KEEP (R113), from the office by dispatch or from the line controller over the line port. -/
def execKeep (master : Master) (target : Byte) (number tag : Word16) (s : State) : Host.Outcome State Fault Refusal :=
  .next (match master with
    | .office n => officeKeep n target number tag (beginBlock s)
    | .lineController => takeRequest (.keep target number tag) s)

/-- RELEASE (R113), from the office by dispatch or from the line controller over the line port. -/
def execRelease (master : Master) (target : Byte) (number tag : Word16) (s : State) : Host.Outcome State Fault Refusal :=
  .next (match master with
    | .office n => officeRelease n target number tag (beginBlock s)
    | .lineController => takeRequest (.release target number tag) s)

/-- READ_EVENTS (R183). -/
def execReadEvents (s : State) : Host.Outcome State Fault Refusal :=
  .next (takeRequest .readEvents s)

/-- CLEAR_EVENTS (R184). -/
def execClearEvents (marks : Word16) (s : State) : Host.Outcome State Fault Refusal :=
  .next (takeRequest (.clearEvents marks) s)

/-- SET_EVENTS (R184). -/
def execSetEvents (marks : Word16) (s : State) : Host.Outcome State Fault Refusal :=
  .next (takeRequest (.setEvents marks) s)

/-- SET_EVENT_ENABLES (R184). -/
def execSetEventEnables (enables : Word16) (s : State) : Host.Outcome State Fault Refusal :=
  .next (takeRequest (.setEventEnables enables) s)

/-- READ_COUNTS (R185). -/
def execReadCounts (clearAfter : Byte) (s : State) : Host.Outcome State Fault Refusal :=
  .next (takeRequest (.readCounts clearAfter) s)

/-- CLEAR (R186). -/
def execClear (s : State) : Host.Outcome State Fault Refusal :=
  .next (takeRequest .clear s)

end Sys2Proof.Machine
end

