-- ==== Sys2Proof/Machine/Receiver.lean ====
section
/-! DEFINITION. The downlink receiver, character by character (R160): a block of 64 collected bytes is judged and dispatched. -/

namespace Sys2Proof.Machine

/-- A good block's request, handed to the link state machine and in UP to its owner (R161, R167). -/
def dispatchOffice (r : OfficeRequest) (s : State) : State :=
  match r with
  | .idle _ => officeIdle s
  | .verdict n mode address action mask => officeVerdict n mode address action mask s
  | .keep n target frame tag => officeKeep n target frame tag s
  | .release n target frame tag => officeRelease n target frame tag s
  | .fetchRegion n frame tag x y w h factor => officeFetchRegion n frame tag x y w h factor s
  | .queryItem n mode address => officeQueryItem n mode address s
  | .queryStatus n => officeQueryStatus n s
  | .unknown kind n => officeUnknown kind n s

/-- A data byte of the downlink (R160): ignored in HUNT, collected in COLLECT; with the 64th the block has arrived (R161). -/
def downlinkByte (b : Byte) (s : State) : State :=
  match s.link.receiver with
  | .hunt => s
  | .collect l =>
    if l.length + 1 < Config.blockLength then { s with link.receiver := .collect (l ++ [b]) }
    else if blockChecks (l ++ [b]) then dispatchOffice (officeRequest (l ++ [b])) s
    else badBlock .hunt s

/-- BAD_BLOCK (R160, R161), and the single characters of the downlink (log 8). -/
def execBadBlock (a : BlockArrival) (s : State) : Host.Outcome State Fault Refusal :=
  .next (match a with
    | .checkFails => badBlock .hunt (beginBlock s)
    | .cutShort => blockStart (beginBlock s)
    | .blockStart => blockStart s
    | .dataByte b => downlinkByte b s)

end Sys2Proof.Machine
end

