-- ==== Sys2Proof/Machine/Dispatch.lean ====
section
/-! DEFINITION. One arm per command of the LV8: each calls its meaning. -/

namespace Sys2Proof.Machine

def exec (i : Instr) (s : State) : Host.Outcome State Fault Refusal :=
  match i with
  | .resetPin pins => Sys2Proof.Machine.execResetPin pins s
  | .encoderStep a b order => Sys2Proof.Machine.execEncoderStep a b order s
  | .speedWindowEnd => Sys2Proof.Machine.execSpeedWindowEnd s
  | .sensorRisingEdge => Sys2Proof.Machine.execSensorRisingEdge s
  | .triggerExaminationAtCreation tag => Sys2Proof.Machine.execTriggerExaminationAtCreation tag s
  | .decisionExaminationAtCreation tag => Sys2Proof.Machine.execDecisionExaminationAtCreation tag s
  | .trainEnd station => Sys2Proof.Machine.execTrainEnd station s
  | .cameraTimeoutExpiry station => Sys2Proof.Machine.execCameraTimeoutExpiry station s
  | .gateExaminationAfterPlacing tag => Sys2Proof.Machine.execGateExaminationAfterPlacing tag s
  | .recoveryExpiry gate => Sys2Proof.Machine.execRecoveryExpiry gate s
  | .haltInputRisingEdge => Sys2Proof.Machine.execHaltInputRisingEdge s
  | .haltInputFallingEdge => Sys2Proof.Machine.execHaltInputFallingEdge s
  | .lampBlinkToggle => Sys2Proof.Machine.execLampBlinkToggle s
  | .frameHeader port header => Sys2Proof.Machine.execFrameHeader port header s
  | .pixelByte port byte => Sys2Proof.Machine.execPixelByte port byte s
  | .frameTrailer port rows crc => Sys2Proof.Machine.execFrameTrailer port rows crc s
  | .frameEndedWithoutTrailer port cut => Sys2Proof.Machine.execFrameEndedWithoutTrailer port cut s
  | .writeGrant => Sys2Proof.Machine.execWriteGrant s
  | .grantEnd => Sys2Proof.Machine.execGrantEnd s
  | .segmentBoundary => Sys2Proof.Machine.execSegmentBoundary s
  | .badBlock arrival => Sys2Proof.Machine.execBadBlock arrival s
  | .idleBlock number => Sys2Proof.Machine.execIdleBlock number s
  | .verdict number mode address action failMask => Sys2Proof.Machine.execVerdict number mode address action failMask s
  | .keep master target number tag => Sys2Proof.Machine.execKeep master target number tag s
  | .release master target number tag => Sys2Proof.Machine.execRelease master target number tag s
  | .fetchRegion number frame tag x y w h factor => Sys2Proof.Machine.execFetchRegion number frame tag x y w h factor s
  | .queryItem number mode address => Sys2Proof.Machine.execQueryItem number mode address s
  | .queryStatus number => Sys2Proof.Machine.execQueryStatus number s
  | .unknownRequestKind kind number => Sys2Proof.Machine.execUnknownRequestKind kind number s
  | .lossTimerExpiry => Sys2Proof.Machine.execLossTimerExpiry s
  | .readResponse clocked => Sys2Proof.Machine.execReadResponse clocked s
  | .writeRequest bytes => Sys2Proof.Machine.execWriteRequest bytes s
  | .responsePlaced => Sys2Proof.Machine.execResponsePlaced s
  | .readStatus => Sys2Proof.Machine.execReadStatus s
  | .setMode mode => Sys2Proof.Machine.execSetMode mode s
  | .configure items => Sys2Proof.Machine.execConfigure items s
  | .readConfiguration => Sys2Proof.Machine.execReadConfiguration s
  | .writePlan plan => Sys2Proof.Machine.execWritePlan plan s
  | .commitPlan bank => Sys2Proof.Machine.execCommitPlan bank s
  | .readPlan bank => Sys2Proof.Machine.execReadPlan bank s
  | .announceItem back => Sys2Proof.Machine.execAnnounceItem back s
  | .voidItem mode number => Sys2Proof.Machine.execVoidItem mode number s
  | .forceDecision mode number action => Sys2Proof.Machine.execForceDecision mode number action s
  | .readItem mode number => Sys2Proof.Machine.execReadItem mode number s
  | .readEvents => Sys2Proof.Machine.execReadEvents s
  | .clearEvents marks => Sys2Proof.Machine.execClearEvents marks s
  | .setEvents marks => Sys2Proof.Machine.execSetEvents marks s
  | .setEventEnables enables => Sys2Proof.Machine.execSetEventEnables enables s
  | .readCounts clearAfter => Sys2Proof.Machine.execReadCounts clearAfter s
  | .clear => Sys2Proof.Machine.execClear s
  | .infeedSensorFallingEdge => Sys2Proof.Machine.execInfeedSensorFallingEdge s

end Sys2Proof.Machine
end

