-- ==== Sys2Proof/Machine/Step.lean ====
section
/-! DEFINITION. The step: the command at the front of the queue, or, where none waits, one microsecond of the time count. -/

namespace Sys2Proof.Machine

/-- The timeouts of a station that have reached their expiry: the leading entries of its list (R71, R78). -/
def expiredTimeouts (st : Station) (s : State) : List TimeoutEntry :=
  s.trig[st].timeouts.takeWhile fun e => timeReached e.expiry s

/-- The timed commands that are due, in a fixed order (DESIGN CHOICE, log 1): window end, train ends, camera timeouts,
recovery expiries, lamp toggle, loss timer. -/
def dueCommands (s : State) : List Instr :=
  (if timeReached s.pos.windowEnd s then [.speedWindowEnd] else [])
    ++ (allStations.filter fun st => (trainDue st s).isSome).map .trainEnd
    ++ allStations.flatMap (fun st => (expiredTimeouts st s).map fun _ => .cameraTimeoutExpiry st)
    ++ ([Gate.reject, Gate.rework].filter fun g => recoveryDue g s).map .recoveryExpiry
    ++ (if blinkDue s then [.lampBlinkToggle] else [])
    ++ (if lossTimerDue s then [.lossTimerExpiry] else [])

/-- One microsecond passes (R27). -/
def advanceTime (s : State) : State :=
  { s with pos.time := s.pos.time + 1 }

/-- What the block does while no command waits (DESIGN CHOICE, log 1): a microsecond passes, and the timed commands then
due join the empty queue. -/
def tick (s : State) : State :=
  { advanceTime s with pending := dueCommands (advanceTime s) }

/-- The step: the command at the front of the queue is taken, whole. -/
def step (s : State) : Host.Outcome State Fault Refusal :=
  match s.pending with
  | c :: rest => exec c { s with pending := rest }
  | [] => .next (tick s)

/-- `s` with the command that a word spells at the front of its queue; no row of the table gives bits (log 1). -/
def State.withFetchWord (s : State) (nbits w : Nat) : State :=
  match decodeTableWord nbits w with
  | some c => { s with pending := c :: s.pending }
  | none => s

end Sys2Proof.Machine
end

