-- ==== Sys2Proof/WellFormed.lean ====
section
/-! DEFINITION. Which commands are well formed: those whose operands belong to the row of the table their constructor
stands for. A field out of its range is no ill-formedness: R192 gives it an answer. -/

namespace Sys2Proof

/-- CONFIGURE carries 1 to 19 setting items (12.7); another number is a WRITE_REQUEST of a bad length (R176). -/
def itemCountOk (items : List SettingItem) : Bool :=
  decide (1 ≤ items.length) && decide (items.length ≤ 19)

/-- UNKNOWN_REQUEST_KIND stands for a block whose kind names none of the seven kinds (R167, 12.6). -/
def kindUnknown (kind : Byte) : Bool :=
  decide (7 ≤ kind.toNat)

/-- WRITE_REQUEST stands for a write transaction with no row of its own: its first byte is not 0 (that is a READ RESPONSE,
12.7), and it is no request that has a row. -/
def writeHasNoRow (bytes : List Byte) : Bool :=
  decide (bytes.head? ≠ some 0) && (transactionRequest bytes).isNone

/-- The well-formed commands. -/
def Instr.wellFormed : Instr → Bool
  | .configure items => itemCountOk items
  | .unknownRequestKind kind _ => kindUnknown kind
  | .writeRequest (.transaction bytes) => writeHasNoRow bytes
  | .writeRequest .chipSelect => true
  | .writeRequest (.busByte _) => true
  | .writeRequest .release => true
  | .resetPin _ => true
  | .encoderStep _ _ _ => true
  | .speedWindowEnd => true
  | .sensorRisingEdge => true
  | .triggerExaminationAtCreation _ => true
  | .decisionExaminationAtCreation _ => true
  | .trainEnd _ => true
  | .cameraTimeoutExpiry _ => true
  | .gateExaminationAfterPlacing _ => true
  | .recoveryExpiry _ => true
  | .haltInputRisingEdge => true
  | .haltInputFallingEdge => true
  | .lampBlinkToggle => true
  | .frameHeader _ _ => true
  | .pixelByte _ _ => true
  | .frameTrailer _ _ _ => true
  | .frameEndedWithoutTrailer _ _ => true
  | .writeGrant => true
  | .grantEnd => true
  | .segmentBoundary => true
  | .badBlock _ => true
  | .idleBlock _ => true
  | .verdict _ _ _ _ _ => true
  | .keep _ _ _ _ => true
  | .release _ _ _ _ => true
  | .fetchRegion _ _ _ _ _ _ _ _ => true
  | .queryItem _ _ _ => true
  | .queryStatus _ => true
  | .lossTimerExpiry => true
  | .readResponse _ => true
  | .responsePlaced => true
  | .readStatus => true
  | .setMode _ => true
  | .readConfiguration => true
  | .writePlan _ => true
  | .commitPlan _ => true
  | .readPlan _ => true
  | .announceItem _ => true
  | .voidItem _ _ => true
  | .forceDecision _ _ _ => true
  | .readItem _ _ => true
  | .readEvents => true
  | .clearEvents _ => true
  | .setEvents _ => true
  | .setEventEnables _ => true
  | .readCounts _ => true
  | .clear => true
  | .infeedSensorFallingEdge => true

end Sys2Proof
end

