-- ==== Sys2Proof/Safety.lean ====
section
/-! DEFINITION. What a safe run of the LV8 keeps (the invariants that the manual's prose states), and the words in which the
claims are written. -/

namespace Sys2Proof.Safety

open Sys2Proof.Machine

/-! ## Invariants -/

/-- The bytes of the frame store stand in their canonical form. -/
def MemoryCanonical (s : State) : Prop :=
  Memory.wf s.store.mem = true

/-- What a parser has collected of a header or of a trailer is less than the whole (R87). -/
def parserBound : Parser → Bool
  | .header l => decide (l.length < 8)
  | .trailer _ l => decide (l.length < 6)
  | .hunt => true
  | .pixels _ => true
  | .discard => true

/-- What the downlink receiver has collected of a block is less than the whole (R160). -/
def receiverBound : Receiver → Bool
  | .hunt => true
  | .collect l => decide (l.length < 64)

/-- No queue is longer than its rule allows, no counter is larger, and nothing collected is longer than what it is a part of
(R1, R28, R29, R71, R87, R93, R138, R140, R141, R160, R162). -/
structure WithinBounds (s : State) : Prop where
  items : s.queue.items.length ≤ 128
  speed : s.pos.speed ≤ 65535
  triggers : ∀ st : Station, s.trig[st].queue.length ≤ 4
  fifos : ∀ p : Station, (s.ingest.ports[p].fifo.flatMap FifoFrame.bytes).length ≤ 262144
  parsers : ∀ p : Station, parserBound s.ingest.ports[p].parser = true
  receiver : receiverBound s.link.receiver = true
  regions : s.uplink.regions.length ≤ 16
  reports : s.uplink.reports.length ≤ 64
  replies : s.uplink.replies.length ≤ 16
  goodRun : s.link.goodRun ≤ 4

/-- The tags in the queue are the last values of the next-tag counter, in turn (R1, R4). -/
def TagsInTurn (s : State) : Prop :=
  ∀ (k : Nat) (i : Item), s.queue.items[k]? = some i →
    (i.tag.val + (s.queue.items.length - k)) % 1024 = s.queue.nextTag.val

/-- Phase, station outcomes and decision of a record agree: a WAITING station is one of an ENTERED item, a TRIGGERED one of an
ENTERED item or a VOID one (R11, R13, R63); an ENTERED or COMPLETE item is undecided, a DECIDED or FIRING one is decided REJECT
or REWORK, a PASSED one is decided (R53, R64, R148, R150). -/
structure ItemSound (i : Item) : Prop where
  waiting : ∀ st : Station, i.stations[st] = .waiting → i.phase = .entered
  triggered : ∀ st : Station, i.stations[st] = .triggered → i.phase = .entered ∨ i.phase = .void
  undecided : i.phase = .entered ∨ i.phase = .complete → i.decision = none
  decided : i.phase = .decided ∨ i.phase = .firing → ∃ d ∈ i.decision.toList, d.action ≠ .accept
  passed : i.phase = .passed → i.decision ≠ none

/-- The action that a gate carries out (R64). -/
def gateAction : Gate → Action
  | .reject => .reject
  | .rework => .rework

/-- Every entry of a trigger queue, a timeout list and a fire list is that of a live item, one entry for one item, and agrees
with the item's record (R71 to R73, R76, R78, R81, R146 to R150): a queued trigger is that of an undecided item whose station is
not TRIGGERED, and is none of the train's item, and none waits behind an empty slot; a timeout is that of an ENTERED item whose
station is TRIGGERED; a fire is that of an item decided for its gate, FIRING while it is ON and DECIDED before. An output is ON
exactly while a fire is ON, and a HELD fire waits for a recovery expiry. -/
structure QueuesOwned (s : State) : Prop where
  count : s.queue.items.length ≤ 128
  tags : TagsInTurn s
  items : ∀ i ∈ s.queue.items, ItemSound i
  queued : ∀ st : Station, ∀ e ∈ s.trig[st].queue, ∃ i ∈ s.queue.items,
    i.tag = e.tag ∧ i.bank = e.bank ∧ (i.phase = .entered ∨ i.phase = .complete) ∧ i.stations[st] ≠ .triggered
  queuedOnce : ∀ st : Station, (s.trig[st].queue.map TriggerEntry.tag).Nodup
  queuedApart : ∀ st : Station, ∀ tr ∈ s.trig[st].slot.toList, ∀ e ∈ s.trig[st].queue, ¬ (e.tag = tr.tag ∧ e.bank = tr.bank)
  queuedBehind : ∀ st : Station, s.trig[st].slot = none → s.trig[st].queue = []
  timed : ∀ st : Station, ∀ e ∈ s.trig[st].timeouts, ∃ i ∈ s.queue.items,
    i.tag = e.tag ∧ i.bank = e.bank ∧ i.phase = .entered ∧ i.stations[st] = .triggered
  timedOnce : ∀ st : Station, (s.trig[st].timeouts.map TimeoutEntry.tag).Nodup
  fires : ∀ g : Gate, ∀ f ∈ (gateOf g s).fires, ∃ i ∈ s.queue.items, i.tag = f.tag
    ∧ (∃ d ∈ i.decision.toList, d.action = gateAction g) ∧ i.phase = (if f.status = .on then .firing else .decided)
  firesOnce : ∀ g : Gate, ((gateOf g s).fires.map Fire.tag).Nodup
  outputOn : ∀ g : Gate, (gateOf g s).output = .on ↔ ∃ f ∈ (gateOf g s).fires, f.status = .on
  outputRecovery : ∀ g : Gate, ∀ f ∈ (gateOf g s).fires, f.status = .held →
    (gateOf g s).output ≠ .idle ∧ (gateOf g s).output ≠ .on

/-- The in-use count of each bank is the number of live records that name it (R42). -/
def InUseCounted (s : State) : Prop :=
  ∀ n : BankName, (bankOf n s).inUse = s.queue.items.countP fun i => i.bank == n

/-- A VALID bank holds good contents (R41, R45); outside HALT the active bank is VALID; a pending swap asks for a VALID bank;
in HALT the queue is empty (R21) and no swap is pending (R49). -/
structure PlansSound (s : State) : Prop where
  good : ∀ n : BankName, (bankOf n s).valid = true → (planOf n s).firstFailure = none
  active : s.port.mode ≠ .halt → (bankOf s.plans.active s).valid = true
  pending : s.plans.pendingSwap = true → (bankOf s.plans.active.other s).valid = true
  haltEmpty : s.port.mode = .halt → s.queue.items = []
  haltSettled : s.port.mode = .halt → s.plans.pendingSwap = false

/-- Every numeric setting is in the range of R182's table. -/
def SettingsInRange (c : Settings) : Prop :=
  c.prescaler ∈ [1, 2, 4, 8, 16, 32, 64, 128] ∧ (1 ≤ c.minPitch ∧ c.minPitch ≤ 65535) ∧ (1 ≤ c.laneRate ∧ c.laneRate ≤ 1500)
    ∧ c.allowance ≤ 1000000 ∧ c.maxFactor ∈ [1, 2, 4] ∧ (1000 ≤ c.cameraTimeout ∧ c.cameraTimeout ≤ 1000000)
    ∧ c.bitPeriod ∈ [1, 2, 4, 8] ∧ c.rejectGap ≤ 65535 ∧ c.reworkGap ≤ 65535 ∧ c.watermark ≤ 1024
    ∧ (100 ≤ c.lossTimeout ∧ c.lossTimeout ≤ 10000)

/-- The settings are in range (R182), and the residue lies between -(p - 1) and p - 1 (R24). -/
structure SettingsSound (s : State) : Prop where
  inRange : SettingsInRange s.port.settings
  residueLow : -(s.port.settings.prescaler : Int) < s.pos.residue
  residueHigh : s.pos.residue < s.port.settings.prescaler

/-- The blocks of all records, record after record. -/
def heldBlocks (s : State) : List Block :=
  s.store.frames.toList.flatMap FrameRecord.blocks

/-- The frames whose bytes the FIFOs hold, port after port. -/
def fifoFrames (s : State) : List FrameId :=
  s.ingest.ports.toList.flatMap fun p => p.fifo.map FifoFrame.frame

/-- In a FIFO no frame but the head's has been cut off, and a frame that has been cut off is gone once its mark has been placed
(R98). -/
def FifoSettled (l : List FifoFrame) : Prop :=
  (∀ x, l.head? = some x → x.cut = true → x.marked = false) ∧ ∀ x ∈ l.tail, x.cut = false

/-- The transmissions open on a frame, counted over the three kinds (R111). -/
def transmissionsOn (id : FrameId) (u : Uplink) : Nat :=
  (u.deadline.toList.countP fun x => x.frame == id) + (u.region.toList.countP fun x => x.frame == id)
    + (u.background.toList.countP fun x => x.frame == id)

/-- Every block is on the free list or in the block list of exactly one record that is not FREE, and not both (R104), 1 to 128
of them (R90); the reclaim list holds the evictable records, none twice (R116); the background order holds the READY records of
class BACKGROUND, none twice (R136); the FIFOs hold the bytes of FILLING records, each in one place (R93, R99), and stay settled
(R98). A record's open transmission count is the number of transmissions open on it, and only a READY record has one (R111); a
background transmission is on a record of class BACKGROUND or DONE, and no frame has two frame transmissions (R136). -/
structure StoreConserved (s : State) : Prop where
  blocks : (s.store.freeList ++ heldBlocks s).Perm fullFreeList
  freeHolds : ∀ id : FrameId, (frameOf id s).state = .free → (frameOf id s).blocks = []
  usedHolds : ∀ id : FrameId, (frameOf id s).state ≠ .free → 1 ≤ (frameOf id s).blocks.length ∧ (frameOf id s).blocks.length ≤ 128
  reclaimExact : ∀ id : FrameId, id ∈ s.store.reclaim ↔ (frameOf id s).evictable = true
  reclaimNodup : s.store.reclaim.Nodup
  orderExact : ∀ id : FrameId, id ∈ s.uplink.bgOrder ↔ (frameOf id s).waitsInBackground = true
  orderNodup : s.uplink.bgOrder.Nodup
  fifoFilling : ∀ id ∈ fifoFrames s, (frameOf id s).state = .filling
  fifoNodup : (fifoFrames s).Nodup
  fifoSettled : ∀ p : Station, FifoSettled s.ingest.ports[p].fifo
  openCounted : ∀ id : FrameId, (frameOf id s).openTx = transmissionsOn id s.uplink
  openReady : ∀ id : FrameId, 0 < (frameOf id s).openTx → (frameOf id s).state = .ready
  openBackground : ∀ x ∈ s.uplink.background.toList, (frameOf x.frame s).cls = .background ∨ (frameOf x.frame s).cls = .done
  openApart : ∀ x ∈ s.uplink.deadline.toList, ∀ y ∈ s.uplink.background.toList, x.frame ≠ y.frame

/-- A run is safe while every invariant holds. -/
structure Sound (s : State) : Prop where
  memory : MemoryCanonical s
  bounds : WithinBounds s
  tags : TagsInTurn s
  owned : QueuesOwned s
  inUse : InUseCounted s
  plans : PlansSound s
  settings : SettingsSound s
  store : StoreConserved s

/-! ## The words of the claims -/

/-- The commands of a list, run one after the other, lead from a state to another. -/
def Leads : List Instr → State → State → Prop
  | [], s, t => t = s
  | c :: rest, s, t => ∃ u, exec c s = .next u ∧ Leads rest u t

/-- What the next step answers is a next state that keeps a property. -/
def StepKeeps (P : State → Prop) : Prop :=
  ∀ s t : State, P s → step s = .next t → P t

/-- A count one higher, or at 65,535 (R185). -/
def oneMore (v : Word16) : Word16 :=
  if v.toNat < 65535 then v + 1 else v

/-- The line port has taken a request of `n` transaction bytes, every byte sent back being 0, and is BUSY with an answer; the
transaction is over. -/
def taken (n : Nat) (answer : List Byte) (s : State) : State :=
  { s with port.bus := .idle, port.spiOut := List.replicate n 0, port.buffer := .busy answer }

/-- A reply joins the reply queue, after its oldest entry is dropped where it holds 16 (R141). -/
def joinReplies (r : Reply) (l : List Reply) : List Reply :=
  (if l.length < 16 then l else l.tail) ++ [r]

/-- A report joins the report queue, after its oldest entry is dropped where it holds 64 (R140). -/
def joinReports (r : Report) (l : List Report) : List Report :=
  (if l.length < 64 then l else l.tail) ++ [r]

/-- No partial block waits in the downlink receiver (R160). -/
def noPartial (s : State) : Prop :=
  ∀ (b : Byte) (l : List Byte), s.link.receiver ≠ .collect (b :: l)

/-- A bad block (R161, R162): it is counted (13), the pending-fault flag is set, in ALIGNING the run is 0; `r` is the receiver
after it. -/
def badBlockSeen (r : Receiver) (s : State) : State :=
  { s with
    link := { s.link with receiver := r, pendingFault := true, goodRun := if s.link.state = .aligning then 0 else s.link.goodRun }
    port.counts := s.port.counts.set 13 (oneMore s.port.counts[(13 : Fin 14)]) }

/-- A good block has been judged with the link UP: the receiver is in HUNT and the loss timer restarted (R160, R163). -/
def heard (s : State) : State :=
  { s with link.receiver := .hunt, link.lossTimer := some (s.pos.time + BitVec.ofNat 32 s.port.settings.lossTimeout) }

/-- A good block has been dispatched and answered with a reply, and nothing else has changed (R163, R167, R168). -/
def replied (r : Reply) (s : State) : State :=
  { heard s with uplink.replies := joinReplies r s.uplink.replies }

/-- An event raised and the count in place `k` of R185's table incremented; `bit` is the event's bit (12.7). -/
def noted (bit : Nat) (k : Fin 14) (s : State) : State :=
  { s with port.flags := s.port.flags ||| (1#16 <<< bit), port.counts := s.port.counts.set k.val (oneMore s.port.counts[k]) k.isLt }

/-- A record that is READY and DONE with no mark and no open transmission: it is freed (R112). -/
abbrev unheld (r : FrameRecord) : Prop :=
  r.state = .ready ∧ r.cls = .done ∧ r.k0 = false ∧ r.k1 = false ∧ r.openTx = 0

/-- The record that stands after a record has become `r` (R106, R112). -/
def settled (r : FrameRecord) : FrameRecord :=
  if unheld r then FrameRecord.freed else r

/-- A list of frames after one of them has come to belong there or not: it joins the tail, or leaves (R116, R136). -/
def relisted (belongs : Bool) (id : FrameId) (l : List FrameId) : List FrameId :=
  if belongs then (if id ∈ l then l else l ++ [id]) else l.filter fun k => k != id

/-- The state in which a frame's record has become `r`, and nothing else has changed but what follows from it: a record that
nothing holds is FREE, its blocks at the tail of the free list (R106, R112), the reclaim list holds it while it is READY,
BACKGROUND, unmarked and not being sent (R116), the background order while it is READY and BACKGROUND (R136). -/
def withFrame (id : FrameId) (r : FrameRecord) (s : State) : State :=
  { s with
    store := { s.store with
      freeList := if unheld r then s.store.freeList ++ r.blocks else s.store.freeList
      frames := s.store.frames.set id.val (settled r) id.isLt
      reclaim := relisted (decide (r.state = .ready ∧ r.cls = .background ∧ r.k0 = false ∧ r.k1 = false ∧ r.openTx = 0)) id
        s.store.reclaim }
    uplink.bgOrder := relisted (decide (r.state = .ready ∧ r.cls = .background)) id s.uplink.bgOrder }

/-- One transmission on a frame has closed (R111). -/
def closedOn (id : FrameId) (s : State) : State :=
  withFrame id { frameOf id s with openTx := (frameOf id s).openTx - 1 } s

/-- One transmission on a frame has opened (R111). -/
def openedOn (id : FrameId) (s : State) : State :=
  withFrame id { frameOf id s with openTx := (frameOf id s).openTx + 1 } s

/-- The copy of a frame at a factor has completed and its transmission closed (R111): the best copy is the finest so far, and a
full copy makes the record DONE. -/
def completedOn (id : FrameId) (f : Nat) (s : State) : State :=
  let r := frameOf id s
  withFrame id { r with
    best := if f = 1 ∨ r.best = .full then .full else if f = 2 ∨ r.best = .f2 then .f2 else .f4
    cls := if f = 1 then .done else r.cls
    openTx := r.openTx - 1 } s

/-- The class of a record as it becomes READY (R99): DONE where it is DONE, DEADLINE where its item is live, undecided and not
VOID, BACKGROUND otherwise. -/
def classR99 (r : FrameRecord) (s : State) : FrameClass :=
  if r.cls = .done then .done
  else if ∃ i ∈ (liveItem? r.tag r.bank s).toList, i.decision = none ∧ i.phase ≠ .void then .deadline else .background

/-- A frame has ended and its record, `r` until then, has become READY (R99). -/
def frameEnded (id : FrameId) (r : FrameRecord) (s : State) : State :=
  withFrame id { r with state := .ready, cls := classR99 r s } s

/-- The frame at the head of the reclaim list has been evicted, and counted (R117). -/
def evicted (id : FrameId) (s : State) : State :=
  { s with
    store := { s.store with
      freeList := s.store.freeList ++ (frameOf id s).blocks
      frames := s.store.frames.set id.val FrameRecord.freed id.isLt
      reclaim := s.store.reclaim.filter fun k => k != id }
    uplink.bgOrder := s.uplink.bgOrder.filter fun k => k != id
    port.counts := s.port.counts.set 6 (oneMore s.port.counts[(6 : Fin 14)]) }

/-- The signed 32-bit difference of a position or time count and a point is 0 or more (R26). -/
def reached (now point : Word32) : Prop :=
  0 ≤ (now - point).toInt

/-- The record that R8 appends, for the bank `n` and the entry position `e`. -/
def newRecord (n : BankName) (e : Word32) (s : State) : Item :=
  { tag := s.queue.nextTag, bank := n, entry := e, phase := .entered,
    stations := Vector.ofFn fun k : Fin 8 => if (planOf n s).stations[k].enable then .waiting else .disabled,
    verdict := none, force := none, decision := none, gateOutcome := .none }

/-- R8, R4, R42, R48: the state with an item created at the entry position `e`; a pending swap is taken, bit 1 of the flags
is PLAN_SWAPPED. -/
def withCreation (e : Word32) (s : State) : State :=
  let n := if s.plans.pendingSwap then s.plans.active.other else s.plans.active
  { s with
    queue := { items := s.queue.items ++ [newRecord n e s], nextTag := s.queue.nextTag + 1 }
    plans := { s.plans with
      a.inUse := s.plans.a.inUse + (if n = .a then 1 else 0)
      b.inUse := s.plans.b.inUse + (if n = .b then 1 else 0)
      active := n
      pendingSwap := false }
    port.flags := if s.plans.pendingSwap then s.port.flags ||| (1#16 <<< 1) else s.port.flags }

/-- R5: E is beyond the youngest record's entry position by at least the minimum pitch, or the queue is empty. -/
def farEnough (e : Word32) (s : State) : Prop :=
  ∀ y, s.queue.items.getLast? = some y → (s.port.settings.minPitch : Int) ≤ (e - y.entry).toInt

/-- What identifies a record for its whole life (R2). -/
def identity (i : Item) : Tag × BankName × Word32 :=
  (i.tag, i.bank, i.entry)

/-- The eight stations that are WAITING or TRIGGERED, counted. -/
def unresolvedStations (i : Item) : Nat :=
  i.stations.toList.countP fun o => o == .waiting || o == .triggered

/-- A station falls due at an examination (R72): WAITING, with no entry of its own queued or on the line, its point reached. -/
def stationDue (i : Item) (st : Station) (s : State) : Prop :=
  i.stations[st] = .waiting ∧ (∀ e ∈ s.trig[st].queue, ¬ (e.tag = i.tag ∧ e.bank = i.bank))
    ∧ (∀ tr, s.trig[st].slot = some tr → ¬ (tr.tag = i.tag ∧ tr.bank = i.bank))
    ∧ reached s.pos.position (i.entry + (planOf i.bank s).stations[st].offset.setWidth 32)

/-- The trigger of an item's station, from its bank (R71, R74). -/
def entryFor (i : Item) (st : Station) (s : State) : TriggerEntry :=
  { tag := i.tag, bank := i.bank, strobe := (planOf i.bank s).stations[st].strobe,
    exposure := (planOf i.bank s).stations[st].exposure }

/-- The train of a trigger that starts now (R75). -/
def trainNow (e : TriggerEntry) (s : State) : Train :=
  { word := triggerWord e.tag e.bank e.strobe e.exposure, tag := e.tag, bank := e.bank, period := s.port.settings.bitPeriod,
    start := s.pos.time }

/-- The head record does not retire where the position stands (R16). -/
def headStays (s : State) : Prop :=
  ∀ j, s.queue.items.head? = some j → ¬ reached s.pos.position (j.entry + (planOf j.bank s).exit.setWidth 32)

/-- The table of R61. -/
def tableR61 (i : Item) (s : State) : Decision :=
  match i.force with
  | some a => { action := a, cause := .forced }
  | none =>
    match i.verdict with
    | some v => { action := v.action, cause := .verdict }
    | none =>
      if s.port.mode = .trackOnly then { action := s.port.settings.defaultTrackOnly, cause := .trackOnly }
      else if s.link.state = .aligning then { action := s.port.settings.defaultLinkDown, cause := .linkDown }
      else if ∃ st : Station, i.stations[st].code ∈ [(1 : Byte), 2, 4, 6, 7, 8, 9] then
        { action := s.port.settings.defaultStationFault, cause := .stationFault }
      else { action := s.port.settings.defaultNoVerdict, cause := .noVerdict }

/-- The table of R66, on the station outcomes as they stand after R63. -/
def tableR66 (after : Item) (d : Decision) (s : State) : Prop :=
  (s.port.settings.autoKeep = .onReject ∧ d.action = .reject)
    ∨ (s.port.settings.autoKeep = .onDefault ∧ d.cause ≠ .forced ∧ d.cause ≠ .verdict)
    ∨ (s.port.settings.autoKeep = .onFault ∧ ∃ st : Station, after.stations[st].code ∈ [(4 : Byte), 6, 7, 8, 9])

/-- An item is due for its decision (R60). -/
def dueForDecision (i : Item) (s : State) : Prop :=
  i.decision = none ∧ i.phase ≠ .void ∧ reached s.pos.position (i.entry + (planOf i.bank s).decision.setWidth 32)

/-- The record after its decision `d` (R53, R63, R64). -/
def decidedRecord (i : Item) (d : Decision) : Item :=
  { i with
    decision := some d
    phase := if d.action = .accept then .passed else .decided
    stations := i.stations.map fun o => if o = .waiting ∨ o = .triggered then .missing else o }

/-- One port's parser and FIFO replaced. -/
def withPort (p : Station) (parser : Parser) (fifo : List FifoFrame) (s : State) : State :=
  { s with ingest.ports := s.ingest.ports.set p.val { parser := parser, fifo := fifo } p.isLt }

/-- The parser is where a header may begin: in HUNT, in DISCARD, or behind a sync pattern with no byte come (R87). -/
def betweenFrames (p : Station) (s : State) : Prop :=
  s.ingest.ports[p].parser = .hunt ∨ s.ingest.ports[p].parser = .discard ∨ s.ingest.ports[p].parser = .header []

/-- The open frame of a port fails (R94, R95), and its record becomes `r`: where its item is live and the station still carries
the frame, the station becomes DAMAGED and STATION_FAULT (bit 10) is raised, and it is counted (5) unless the outcome at the
header was MISSING or OVERRUN. `finish` is what else the command does. -/
def Fails (c : Instr) (f : OpenFrame) (p : Station) (r : FrameRecord) (finish : State → State) (s : State) : Prop :=
  let damaged : State := { s with store.frames := s.store.frames.set f.frame.val r f.frame.isLt }
  let live (i : Item) : Prop := liveItem? r.tag r.bank s = some i ∧ i.stations[p].frameId? = some f.frame
  let marked (i : Item) : State :=
    { damaged with queue.items := s.queue.items.map fun j => if j.tag = i.tag then j.withStation p (.damaged f.frame) else j }
  ((∀ i, ¬ live i) → exec c s = .next (finish damaged))
    ∧ (∀ i, live i → f.atHeader.code ∈ [(1 : Byte), 2, 7, 9] → exec c s = .next (finish (noted 10 5 (marked i))))
    ∧ (∀ i, live i → f.atHeader.code ∈ [(6 : Byte), 8] → exec c s =
        .next (finish { marked i with port.flags := s.port.flags ||| (1#16 <<< 10) }))

/-- The fields of a header are in order (R88, check 1; R189). -/
def headerGood (word : Word24) (w h : Word16) (depth : Byte) : Prop :=
  word.extractLsb' 0 4 = (word.extractLsb' 20 4 ^^^ word.extractLsb' 16 4 ^^^ word.extractLsb' 12 4 ^^^ word.extractLsb' 8 4
      ^^^ word.extractLsb' 4 4)
    ∧ 1 ≤ w.toNat ∧ w.toNat ≤ 8192 ∧ 1 ≤ h.toNat ∧ h.toNat ≤ 8192 ∧ (depth = 8 ∨ depth = 12)

/-- The outcome of a matched station once its frame is stored (R89). -/
def outcomeAtHeader (o : StationOutcome) (id : FrameId) : StationOutcome :=
  if o = .missing then .lateFrame id else .frame id

/-- A station of a record written by a header (R89, R11, R79). -/
def stationWritten (i : Item) (p : Station) (o : StationOutcome) (s : State) : State :=
  { s with
    queue.items := s.queue.items.map fun j => if j.tag = i.tag then j.withStation p o else j
    trig := if i.stations[p] = .triggered then
        s.trig.set p.val { s.trig[p] with timeouts := s.trig[p].timeouts.filter fun e =>
          !(decide (e.tag = i.tag) && decide (e.bank = i.bank)) } p.isLt
      else s.trig }

/-- Nothing is due from the segment that ends: no transmission has its LAST segment on the lane, and no ABORT is owed. -/
def noEnding (s : State) : Prop :=
  s.uplink.clearAborts = [] ∧ (∀ x, s.uplink.deadline = some x → x.last = false ∧ x.abort = false)
    ∧ (∀ x, s.uplink.region = some x → x.last = false)
    ∧ (∀ x, s.uplink.background = some x → x.last = false ∧ x.abort = false)

/-- A gate replaced. -/
def withGate (g : Gate) (x : GateState) (s : State) : State :=
  match g with
  | .reject => { s with gates.reject := x }
  | .rework => { s with gates.rework := x }

/-- A data segment carries the next bytes of a payload of `p` bytes, at most 8,192 of them, from an offset on, and is LAST where
it carries the last (R128, R139). -/
def Carries (g : Segment) (k : SegmentKind) (id : FrameId) (number : Byte) (p offset : Nat) (byte : Nat → Byte) : Prop :=
  g.kind = k ∧ g.frame = some id ∧ g.number = number ∧ g.offset = offset ∧ g.pendingFault = false
    ∧ g.payload.length = min 8192 (p - offset) ∧ (∀ j, j < min 8192 (p - offset) → g.payload[j]? = some (byte (offset + j)))
    ∧ (g.last = true ↔ p ≤ offset + min 8192 (p - offset))

/-- The 64 bytes of a frame descriptor (12.4): `kind` DEADLINE 0, BACKGROUND 1, REGION 2. -/
def descriptorOf (id : FrameId) (r : FrameRecord) (kind factor width height payload : Nat) (l slack : Int) : List Byte :=
  bytes2 id.val ++ bytes2 r.tag.val ++ [r.bank.code, BitVec.ofNat 8 r.station.val] ++ bytes2 r.width ++ bytes2 r.height
    ++ [BitVec.ofNat 8 r.depth, (if r.damaged then 4 else 0) + (if r.truncated then 2 else 0) + (if r.shed then 1 else 0)]
    ++ bytes4 r.payload ++ [r.cls.code, r.best.code, BitVec.ofNat 8 kind, BitVec.ofNat 8 factor] ++ bytes2 width ++ bytes2 height
    ++ bytes4 payload ++ bytes2 ((payload + 8191) / 8192) ++ bytes4 (l % 4294967296).toNat ++ bytes4 (slack % 4294967296).toNat
    ++ List.replicate 26 0

/-- A pending deadline frame while no deadline transmission is open (R126). -/
def pendingFrame (id : FrameId) (s : State) : Prop :=
  (frameOf id s).state = .ready ∧ (frameOf id s).cls = .deadline ∧ (frameOf id s).best = .none

/-- The deadline L of a frame (R126), from its item's time to the decision point and the allowance. -/
def deadlineOf (id : FrameId) (s : State) : Option Int :=
  (itemOf? (frameOf id s).tag s).map fun i =>
    (timeToPoint i.entry (planOf i.bank s).decision s : Int) - s.port.settings.allowance

/-- The place in the queue of a frame's item (R127). -/
def placeOf (id : FrameId) (s : State) : Option Nat :=
  s.queue.items.findIdx? fun i => i.tag == (frameOf id s).tag

/-- A frame of deadline `l` goes before another of deadline `m` in a pick's order (R127): by L, then by the place of the item in
the queue, then by station. -/
def picksBefore (a : FrameId) (l : Int) (b : FrameId) (m : Int) (s : State) : Prop :=
  l < m ∨ (l = m ∧ ∃ j ∈ (placeOf a s).toList, ∃ k ∈ (placeOf b s).toList,
    j < k ∨ (j = k ∧ (frameOf a s).station < (frameOf b s).station))

/-- A factor is permitted and its copy fits a deadline (R127). -/
def fits (id : FrameId) (f : Nat) (l : Int) (s : State) : Prop :=
  f ∈ [1, 2, 4] ∧ f ≤ s.port.settings.maxFactor ∧ (sendTime (frameOf id s) f s.port.settings.laneRate : Int) ≤ l

/-- Nothing goes before the region queue at a boundary: nothing is due from the segment that ends, the link is UP, no reply, report
or deadline transmission waits, and no pending deadline frame fits at a permitted factor, so that the pick takes nothing (R124,
R127). -/
def regionsTurn (s : State) : Prop :=
  noEnding s ∧ s.link.state = .up ∧ s.uplink.replies = [] ∧ s.uplink.reports = [] ∧ s.uplink.deadline = none
    ∧ ∀ (id : FrameId) (l : Int), pendingFrame id s → deadlineOf id s = some l → ∀ f, ¬ fits id f l s

/-- A frame is looked at by a pick (R126, R127): pending, with a deadline. -/
def lookedAt (id : FrameId) (s : State) : Bool :=
  decide ((frameOf id s).state = .ready ∧ (frameOf id s).cls = .deadline ∧ (frameOf id s).best = .none)
    && (deadlineOf id s).isSome

/-- The state after a pick that takes nothing (R127): every frame that it looked at is shed and noted, and those noted for the
first time are counted (7). -/
def allShed (s : State) : State :=
  { s with
    store.frames := Vector.ofFn fun id : Fin 1024 =>
      if lookedAt id s then { frameOf id s with shed := true, shedNote := true } else frameOf id s
    port.counts := s.port.counts.set 7 (BitVec.ofNat 16 (min 65535 (s.port.counts[(7 : Fin 14)].toNat
      + (List.finRange 1024).countP fun id : Fin 1024 => lookedAt id s && !(frameOf id s).shedNote))) }

/-- A record after the removal of its queued triggers on leaving RUN (R82): each station that one was for becomes SKIPPED, and
with the last unresolved one an ENTERED record is COMPLETE (R11). -/
def withoutQueued (s : State) (j : Item) : Item :=
  (List.finRange 8).foldl (fun k st =>
    if (s.trig[st].queue.any fun e => e.tag == j.tag && e.bank == j.bank) then k.withStation st .skipped else k) j

/-- The bytes of a layout from one place on. -/
def slice (l : List Byte) (start n : Nat) : List Byte :=
  (l.drop start).take n

/-- A segment with a payload and nothing else in its header (12.4). -/
def segment (k : SegmentKind) (payload : List Byte) : Segment :=
  { kind := k, last := false, pendingFault := false, offset := 0, frame := none, number := 0, payload := payload }

/-- The lamp that a mode and a link state call for (R157). -/
def tableR157 (m : Mode) (l : LinkState) : LampState :=
  match m, l with
  | .halt, _ => .off
  | .trackOnly, _ => .slow
  | .run, .aligning => .fast
  | .run, .up => .on

/-- The commands that a downlink block stands for when it is good (12.6). -/
def isBlock : Instr → Bool
  | .idleBlock _ => true
  | .verdict _ _ _ _ _ => true
  | .keep (.office _) _ _ _ => true
  | .release (.office _) _ _ _ => true
  | .fetchRegion _ _ _ _ _ _ _ _ => true
  | .queryItem _ _ _ => true
  | .queryStatus _ => true
  | .unknownRequestKind _ _ => true
  | _ => false

/-- A setting item is in the range of its row of R182's table: setting number and value as numbers. -/
def settingOk (n v : Nat) : Prop :=
  (n = 0 ∧ v ∈ [1, 2, 4, 8, 16, 32, 64, 128]) ∨ (n ∈ [1, 2, 14] ∧ v ≤ 1) ∨ (n = 3 ∧ 1 ≤ v ∧ v ≤ 65535)
    ∨ (n = 4 ∧ 1 ≤ v ∧ v ≤ 1500) ∨ (n = 5 ∧ v ≤ 1000000) ∨ (n = 6 ∧ v ∈ [1, 2, 4]) ∨ (n = 7 ∧ 1000 ≤ v ∧ v ≤ 1000000)
    ∨ (n = 8 ∧ v ∈ [1, 2, 4, 8]) ∨ (n ∈ [9, 10, 11, 12] ∧ v ≤ 2) ∨ (n = 13 ∧ v ≤ 3) ∨ (n ∈ [15, 16] ∧ v ≤ 65535)
    ∨ (n = 17 ∧ v ≤ 1024) ∨ (n = 18 ∧ 100 ≤ v ∧ v ≤ 10000)

end Sys2Proof.Safety
end

