-- ==== Sys2Proof/Certificates/Slice0/Obligations.lean ====
section
/-! DEFINITION. The statements for the provers, chapter by chapter. Each says in its own words what a rule of the manual makes
of a command; `Safety` holds the words they share. A state is written as the one before with the fields that change, so
that everything a statement does not name is unchanged. -/

open Sys2Proof Sys2Proof.Machine Sys2Proof.Safety

/-! ## The queue of commands (the model's own, log 1) -/

/-- The step of a state with a command in front is that command, on the state with the rest of its queue. -/
def Obligations.StepTakesTheFrontCommand : Prop :=
  ∀ (c : Instr) (rest : List Instr) (s : State), step { s with pending := c :: rest } = exec c { s with pending := rest }

/-- The model's choice (log 1), no rule of the manual: with no command waiting a microsecond passes, and the timed commands
then due, and no others, join the queue. -/
def Obligations.IdleStepIsOneMicrosecond : Prop :=
  ∀ s : State, s.pending = [] →
    let now := s.pos.time + 1
    ∃ t, step s = .next t ∧ t = { s with pos.time := now, pending := t.pending }
      ∧ (.speedWindowEnd ∈ t.pending ↔ reached now s.pos.windowEnd)
      ∧ (∀ st : Station, .trainEnd st ∈ t.pending ↔
          ∃ tr, s.trig[st].slot = some tr ∧ reached now (tr.start + BitVec.ofNat 32 (26 * tr.period)))
      ∧ (∀ st : Station, .cameraTimeoutExpiry st ∈ t.pending ↔
          ∃ e, s.trig[st].timeouts.head? = some e ∧ reached now e.expiry)
      ∧ (∀ g : Gate, .recoveryExpiry g ∈ t.pending ↔ ∃ x, (gateOf g s).output = .recovery x ∧ reached now x)
      ∧ (.lampBlinkToggle ∈ t.pending ↔
          (s.gates.lamp.state = .slow ∨ s.gates.lamp.state = .fast) ∧ reached now s.gates.lamp.toggleAt)
      ∧ (.lossTimerExpiry ∈ t.pending ↔ s.link.state = .up ∧ ∃ x, s.link.lossTimer = some x ∧ reached now x)
      ∧ (∀ c ∈ t.pending, c = .speedWindowEnd ∨ (∃ st, c = .trainEnd st) ∨ (∃ st, c = .cameraTimeoutExpiry st)
          ∨ (∃ g, c = .recoveryExpiry g) ∨ c = .lampBlinkToggle ∨ c = .lossTimerExpiry)

/-- No command of the LV8 stops the block, and none touches the queue of those that wait. -/
def Obligations.EveryCommandCompletesAndLeavesTheQueue : Prop :=
  ∀ (c : Instr) (s : State), ∃ t, exec c s = .next t ∧ t.pending = s.pending

/-! ## What no command does (frames over all commands) -/

/-- Who writes what. Position count and counted direction move by ENCODER_STEP alone, and the whole Position Unit by the six
commands of chapter 2, CONFIGURE (the residue) and the reset pin alone (R36, R38). Every byte of the frame store reads as
before but after GRANT_END. Settings, enables, mode and the contents of the plan banks change by the requests that write them
and by the reset pin alone, the mode also by CLEAR (R180, R182, R184, chapter 3); a release of chip select may take any such
request (R175). The model's choice in it: no command but the reset pin changes the time count (log 1), and the frame store
reads as before after CLEAR (log 5) and after the reset pin (log 28). -/
def Obligations.EachUnitHasItsWriters : Prop :=
  (∀ (c : Instr) (s t : State), c.wellFormed = true → exec c s = .next t →
     (match c with
       | .encoderStep _ _ _ => True
       | .resetPin _ => True
       | _ => t.pos.position = s.pos.position ∧ t.pos.direction = s.pos.direction ∧ t.pos.time = s.pos.time)
     ∧ (match c with
       | .encoderStep _ _ _ => t.pos.speed = s.pos.speed ∧ t.pos.time = s.pos.time
       | .resetPin _ => True
       | .speedWindowEnd => True
       | .sensorRisingEdge => True
       | .infeedSensorFallingEdge => True
       | .haltInputRisingEdge => True
       | .haltInputFallingEdge => True
       | .configure _ => t.pos = { s.pos with residue := t.pos.residue }
       | .writeRequest .release => t.pos = { s.pos with residue := t.pos.residue }
       | _ => t.pos = s.pos))
  ∧ (∀ (c : Instr) (s t : State) (a : Nat), c ≠ .grantEnd → exec c s = .next t → Memory.read t.store.mem a = Memory.read s.store.mem a)
  ∧ (∀ (c : Instr) (s t : State), c.wellFormed = true → exec c s = .next t →
       (match c with
         | .configure _ => True
         | .resetPin _ => True
         | .writeRequest .release => True
         | _ => t.port.settings = s.port.settings)
       ∧ (match c with
         | .setEventEnables _ => True
         | .resetPin _ => True
         | .writeRequest .release => True
         | _ => t.port.enables = s.port.enables)
       ∧ (match c with
         | .setMode _ => True
         | .clear => True
         | .resetPin _ => True
         | .writeRequest .release => True
         | _ => t.port.mode = s.port.mode)
       ∧ (match c with
         | .writePlan _ => True
         | .resetPin _ => True
         | .writeRequest .release => True
         | _ => ∀ n : BankName, planOf n t = planOf n s))

/-- A flag that is set stays set but for CLEAR EVENTS, CLEAR and the reset pin (R183), and a count never falls but by READ
COUNTS and the reset pin (R185). A release of chip select may take any of these requests (R175). -/
def Obligations.FlagsStickAndCountsGrow : Prop :=
  ∀ (c : Instr) (s t : State), c.wellFormed = true → exec c s = .next t →
    (match c with
      | .clearEvents _ => True
      | .clear => True
      | .resetPin _ => True
      | .writeRequest .release => True
      | _ => s.port.flags ||| t.port.flags = t.port.flags)
    ∧ (match c with
      | .readCounts _ => True
      | .resetPin _ => True
      | .writeRequest .release => True
      | _ => ∀ k : Fin 14, s.port.counts[k].toNat ≤ t.port.counts[k].toNat)

/-- Tag, bank and entry position of a record never change while it is in the queue (R2); a command takes records from the head
and adds at most one at the tail (R1). A recorded decision is not changed or removed while its record is in the queue (R53).
R16, R17: a head that is examined retires where it is PASSED or VOID and its exit point is reached, and then the next head is
examined at once: the record leaves, its bank's in-use count falls by one, its retire report joins the report queue, a full
one dropping its oldest (REPORT_LOSS bit 2, count 12). A VOID ITEM of the only record, its exit point reached, retires it in
the same step. -/
def Obligations.RecordsStayThenRetire : Prop :=
  (∀ (c : Instr) (s t : State), exec c s = .next t →
     ∃ (k : Nat) (new : List (Tag × BankName × Word32)), new.length ≤ 1
       ∧ t.queue.items.map identity = (s.queue.items.map identity).drop k ++ new)
  ∧ (∀ (c : Instr) (s t : State), TagsInTurn s → s.queue.items.length ≤ 128 → exec c s = .next t →
       ∀ i ∈ s.queue.items, ∀ j ∈ t.queue.items, j.tag = i.tag → ∀ d, i.decision = some d → j.decision = some d)
  ∧ (∀ (i : Item) (rest : List Item) (s : State), s.queue.items = i :: rest →
       let due := (i.phase = .passed ∨ i.phase = .void) ∧ reached s.pos.position (i.entry + (planOf i.bank s).exit.setWidth 32)
       (¬ due → examineHead s = s)
       ∧ (due → ∃ (r : Report) (u : State), examineHead s = examineHead u
           ∧ u = { s with queue.items := rest, uplink.reports := joinReports r s.uplink.reports, plans := u.plans,
                          port := (if s.uplink.reports.length < 64 then s else noted 2 12 s).port }
           ∧ bankOf i.bank u = { bankOf i.bank s with inUse := (bankOf i.bank s).inUse - 1 }
           ∧ bankOf i.bank.other u = bankOf i.bank.other s
           ∧ u.plans.active = s.plans.active ∧ u.plans.pendingSwap = s.plans.pendingSwap
           ∧ r.kind = .retire ∧ r.tag = i.tag ∧ r.bank = i.bank ∧ r.entry = i.entry ∧ r.phase = i.phase ∧ r.verdict = i.verdict
           ∧ r.force = i.force ∧ r.decision = i.decision ∧ r.gateOutcome = i.gateOutcome ∧ r.position = s.pos.position
           ∧ r.time = s.pos.time
           ∧ ∀ st : Station, r.stations[st].outcome = i.stations[st]
               ∧ (r.stations[st].present = true ↔ ∃ id, i.stations[st].frameId? = some id ∧ (frameOf id s).state ≠ .free
                   ∧ (frameOf id s).tag = i.tag ∧ (frameOf id s).bank = i.bank ∧ (frameOf id s).station = st)))
  ∧ (∀ (mode : Byte) (n : Word16) (i : Item) (s t : State), busy s = false → s.queue.items = [i] → address mode n s = .found 0 i →
       (i.phase = .entered ∨ i.phase = .complete ∨ i.phase = .decided) →
       reached s.pos.position (i.entry + (planOf i.bank s).exit.setWidth 32) → s.uplink.reports.length < 64 →
       exec (.voidItem mode n) s = .next t →
       t.queue = { items := [], nextTag := s.queue.nextTag }
         ∧ (bankOf i.bank t).inUse = (bankOf i.bank s).inUse - 1
         ∧ ∃ r : Report, t.uplink.reports = s.uplink.reports ++ [r] ∧ r.kind = .retire ∧ r.tag = i.tag ∧ r.phase = .void
             ∧ r.decision = i.decision)

/-- A frame record with a keep mark is neither evicted nor freed, and keeps its mark, its tag, bank and station, but for
CLEAR, the reset pin, a RELEASE, and the last data byte of a block and the release of chip select, which may be one (R115,
R116). Each master's mark is its own: a KEEP or RELEASE of the office leaves K1 of every record that is not freed as it was,
one of the line controller K0 (R113, R171). -/
def Obligations.KeepMarksHold : Prop :=
  (∀ (c : Instr) (s t : State) (id : FrameId), StoreConserved s → c.wellFormed = true → exec c s = .next t →
     (match c with
       | .clear => True
       | .resetPin _ => True
       | .release _ _ _ _ => True
       | .badBlock (.dataByte _) => True
       | .writeRequest .release => True
       | _ => (frameOf id s).state ≠ .free → ((frameOf id s).k0 = true ∨ (frameOf id s).k1 = true) →
           (frameOf id t).state ≠ .free ∧ (frameOf id t).tag = (frameOf id s).tag ∧ (frameOf id t).bank = (frameOf id s).bank
             ∧ (frameOf id t).station = (frameOf id s).station ∧ ((frameOf id s).k0 = true → (frameOf id t).k0 = true)
             ∧ ((frameOf id s).k1 = true → (frameOf id t).k1 = true)))
  ∧ (∀ (n target : Byte) (number tag : Word16) (id : FrameId) (s t : State),
       (exec (.keep (.office n) target number tag) s = .next t ∨ exec (.release (.office n) target number tag) s = .next t →
         (frameOf id t).state ≠ .free → (frameOf id t).k1 = (frameOf id s).k1)
       ∧ (exec (.keep .lineController target number tag) s = .next t ∨ exec (.release .lineController target number tag) s = .next t →
         (frameOf id t).state ≠ .free → (frameOf id t).k0 = (frameOf id s).k0))

/-! ## Invariants -/

/-- The frame store's bytes keep their canonical form. -/
def Obligations.EveryStepKeepsTheMemoryCanonical : Prop :=
  StepKeeps MemoryCanonical

/-- No queue outgrows its rule, S stays from 0 to 65,535, and what is collected of a header, a trailer or a block stays less
than the whole. Every entry of a trigger queue, a timeout list or a fire list stays that of a live item, one for each item, so
that the timeout and fire lists hold at most 128; the reclaim list holds at most 1,024, and a record has at most two
transmissions. -/
def Obligations.EveryStepKeepsTheBounds : Prop :=
  StepKeeps WithinBounds
    ∧ StepKeeps QueuesOwned
    ∧ (∀ s : State, QueuesOwned s → (∀ st : Station, s.trig[st].timeouts.length ≤ 128)
        ∧ ∀ g : Gate, (gateOf g s).fires.length ≤ 128)
    ∧ (∀ s : State, StoreConserved s → s.store.reclaim.length ≤ 1024 ∧ s.uplink.bgOrder.length ≤ 1024
        ∧ ∀ id : FrameId, (frameOf id s).openTx ≤ 2)

/-- The tags of the queue stay the last values of the counter, in turn; with at most 128 records no two are the same (R1). The
two in-use counts stay the numbers of records that name each bank, and together equal the queue count (R42). -/
def Obligations.EveryStepKeepsTheQueueCounted : Prop :=
  (StepKeeps TagsInTurn
     ∧ ∀ s : State, TagsInTurn s → s.queue.items.length ≤ 128 → (s.queue.items.map Item.tag).Nodup)
  ∧ (StepKeeps InUseCounted
       ∧ ∀ s : State, InUseCounted s → s.plans.a.inUse + s.plans.b.inUse = s.queue.items.length)

/-- Outside HALT the active bank stays VALID with good contents, and in HALT the queue stays empty with no swap pending (R41,
R21, R49). The settings stay in their ranges and the residue between -(p - 1) and p - 1 (R182, R24). -/
def Obligations.EveryStepKeepsTheConfigurationSound : Prop :=
  (StepKeeps PlansSound)
  ∧ (StepKeeps SettingsSound)

/-- No block of the frame store is ever lost or in two places; reclaim list and background order stay exact. -/
def Obligations.EveryStepConservesTheStore : Prop :=
  StepKeeps StoreConserved

/-- The machine after the reset pin meets every invariant. -/
def Obligations.ResetIsSound : Prop :=
  Sound State.reset

/-! ## Reset, position and time (chapters 2 and 11) -/

/-- After the reset pin every unit holds what its chapter states, and a transaction in progress on the line port is lost
(R175); the lane carries an IDLE segment that shows ALIGNING and 8,192 free blocks (R145, R142, log 22); the input levels are
the operand (log 4), the DRAM and the waiting commands are kept (log 5, log 28). -/
def Obligations.ResetPinSetsEveryUnit : Prop :=
  ∀ (p : Pins) (s : State), ∃ t, exec (.resetPin p) s = .next t
    ∧ t.pos = { position := 0, direction := .forward, residue := 0, heldA := p.a, heldB := p.b, time := 0, windowEnd := 1024,
                windowAcc := 0, speed := 0, sensor := p.sensor, halt := p.halt }
    ∧ t.queue = { items := [], nextTag := 0 }
    ∧ t.plans.active = .a ∧ t.plans.pendingSwap = false
    ∧ (∀ n : BankName, (bankOf n t).valid = false ∧ (bankOf n t).inUse = 0
        ∧ (∀ st : Station, (planOf n t).stations[st] = { enable := false, strobe := false, offset := 0, exposure := 0 })
        ∧ (planOf n t).decision = 0 ∧ (planOf n t).rejectGate = 0 ∧ (planOf n t).reworkGate = 0 ∧ (planOf n t).exit = 0
        ∧ (planOf n t).width = 1)
    ∧ (∀ st : Station, t.trig[st] = { queue := [], slot := none, timeouts := [] })
    ∧ (∀ port : Station, t.ingest.ports[port] = { parser := .hunt, fifo := [] }) ∧ t.ingest.grant = none ∧ t.ingest.pointer = 0
    ∧ t.store.freeList.map Fin.val = List.range 8192 ∧ t.store.reclaim = [] ∧ t.store.mem = s.store.mem
    ∧ (∀ id : FrameId, (frameOf id t).state = .free ∧ (frameOf id t).cls = .none ∧ (frameOf id t).best = .none
        ∧ (frameOf id t).k0 = false ∧ (frameOf id t).k1 = false ∧ (frameOf id t).openTx = 0 ∧ (frameOf id t).shedNote = false)
    ∧ t.uplink.deadline = none ∧ t.uplink.region = none ∧ t.uplink.background = none ∧ t.uplink.clearAborts = []
    ∧ t.uplink.replies = [] ∧ t.uplink.reports = [] ∧ t.uplink.regions = [] ∧ t.uplink.bgOrder = []
    ∧ t.uplink.lane = segment .idle (0 :: bytes2 8192)
    ∧ t.gates.reject = { output := .idle, fires := [] } ∧ t.gates.rework = { output := .idle, fires := [] }
    ∧ t.gates.lamp.state = .off ∧ t.gates.lamp.output = false
    ∧ t.link = { receiver := .hunt, state := .aligning, goodRun := 0, lossTimer := none, pendingFault := false }
    ∧ t.port.mode = .halt ∧ t.port.flags = 0 ∧ t.port.enables = 0 ∧ (∀ k : Fin 14, t.port.counts[k] = 0)
    ∧ t.port.buffer = .vacant ∧ t.port.bus = .idle ∧ t.port.refused = false ∧ t.port.resetSeen = true ∧ attention t = false
    ∧ t.port.settings.values = [1, 0, 0, 1000, 1200, 2000, 4, 50000, 2, 1, 1, 1, 1, 0, 0, 0, 0, 256, 1000]
    ∧ t.pending = s.pending

/-- R22 to R24, R26, R28. A pair that is the same, or in which both phases differ, makes no step; that ENCODER_STEP also
carries such a pair, as a sample, is the model's choice (log 29). A step moves the residue, and the one that brings it to p or
-p makes a count and sets it to 0. A count moves the position by one, its direction is the counted direction, the accumulator
follows, and then the four blocks that watch it handle it in the order that the operand names; each order of the four is named
by some operand (log 3). With nothing live and both gates off a count changes nothing else. R60, R72, R16, R148: Trigger Unit
and Decision Unit examine every live item, oldest first, each as at a creation; the Gate Unit examines the reject gate, then
the rework gate, then the head, whether or not a fire has ended (log 3; what one examination of a gate does is stated with the
gates); a head that may not retire stays. -/
def Obligations.EncoderStepCounts : Prop :=
  (∀ (a b : Bool) (o : WatchOrder) (s : State), 0 < s.port.settings.prescaler →
     let forwardPairs : List (Bool × Bool × Bool × Bool) :=
       [(false, false, true, false), (true, false, true, true), (true, true, false, true), (false, true, false, false)]
     let next := (s.pos.heldA, s.pos.heldB, a, b) ∈ forwardPairs
     let previous := (a, b, s.pos.heldA, s.pos.heldB) ∈ forwardPairs
     let held : State := { s with pos.heldA := a, pos.heldB := b }
     let handled (t : State) (w : Watcher) : State :=
       match w with
       | .triggerUnit => examineAllTriggers t
       | .decisionUnit => examineAllDecisions t
       | .gateUnit => examineGates t
       | .itemQueue => examineHead t
     let moves (ahead : Prop) (by_ : Int) (d : Direction) : Prop := ahead →
       (s.pos.residue + by_ ≠ s.port.settings.prescaler → s.pos.residue + by_ ≠ -(s.port.settings.prescaler : Int) →
         exec (.encoderStep a b o) s = .next { held with pos.residue := s.pos.residue + by_ })
       ∧ (s.pos.residue + by_ = by_ * s.port.settings.prescaler →
         let moved : State := { held with pos :=
           { held.pos with residue := 0, position := s.pos.position + BitVec.ofInt 32 by_, direction := d,
                           windowAcc := s.pos.windowAcc + by_ } }
         exec (.encoderStep a b o) s = .next ((watchers o).foldl handled moved)
           ∧ (s.queue.items = [] → s.gates.reject.fires = [] → s.gates.rework.fires = [] → s.gates.reject.output ≠ .on →
               s.gates.rework.output ≠ .on → exec (.encoderStep a b o) s = .next moved))
     (¬ next → ¬ previous → exec (.encoderStep a b o) s = .next held)
       ∧ (s.port.settings.polarity = .normal → moves next 1 .forward ∧ moves previous (-1) .backward)
       ∧ (s.port.settings.polarity = .inverted → moves previous 1 .forward ∧ moves next (-1) .backward))
  ∧ ((∀ o : WatchOrder, (watchers o).Perm [.triggerUnit, .decisionUnit, .gateUnit, .itemQueue])
       ∧ (∀ l : List Watcher, l.Perm [.triggerUnit, .decisionUnit, .gateUnit, .itemQueue] → ∃ o : WatchOrder, watchers o = l)
       ∧ ∀ s : State,
         Leads (s.queue.items.map fun i => .triggerExaminationAtCreation i.tag) s (examineAllTriggers s)
         ∧ Leads (s.queue.items.map fun i => .decisionExaminationAtCreation i.tag) s (examineAllDecisions s)
         ∧ examineGates s = examineHead (examineGate .rework (examineGate .reject s))
         ∧ (headStays s → examineHead s = s))

/-- R28 and R29: at the window's end S becomes floor((3S + n + 2) / 4) for the sample n, the accumulator clamped to 0 and
65,535; the accumulator is 0 and the next window ends 1,024 later; before the end nothing changes, the model's choice (log 2).
S stays from 0 to 65,535; under a repeated sample n it rests exactly from n - 1 to n + 2, and moves towards that range from
outside it without leaving it on the other side. -/
def Obligations.SpeedFollowsItsWindows : Prop :=
  (∀ s : State,
     let n : Nat := min 65535 s.pos.windowAcc.toNat
     (reached s.pos.time s.pos.windowEnd → exec .speedWindowEnd s = .next { s with
       pos.speed := (3 * s.pos.speed + n + 2) / 4, pos.windowAcc := 0, pos.windowEnd := s.pos.windowEnd + 1024 })
     ∧ (¬ reached s.pos.time s.pos.windowEnd → exec .speedWindowEnd s = .next s))
  ∧ (∀ (s t : State) (n : Nat), s.pos.windowAcc = n → n ≤ 65535 → s.pos.speed ≤ 65535 → reached s.pos.time s.pos.windowEnd →
       exec .speedWindowEnd s = .next t →
       t.pos.speed = (3 * s.pos.speed + n + 2) / 4 ∧ t.pos.speed ≤ 65535
         ∧ (t.pos.speed = s.pos.speed ↔ n ≤ s.pos.speed + 1 ∧ s.pos.speed ≤ n + 2)
         ∧ (s.pos.speed + 1 < n → s.pos.speed < t.pos.speed ∧ t.pos.speed + 1 ≤ n)
         ∧ (n + 2 < s.pos.speed → t.pos.speed < s.pos.speed ∧ n + 2 ≤ t.pos.speed))

/-- R30: the time-to-point of a point at offset D for an item that entered at E, from the position count and S. -/
def Obligations.TimeToPointIsTheRule : Prop :=
  ∀ (e : Word32) (d : Word24) (s : State),
    let r : Int := (d.toNat : Int) - (s.pos.position - e).toInt
    (r ≤ 0 → timeToPoint e d s = 0)
    ∧ (0 < r → s.pos.speed = 0 → timeToPoint e d s = 16777215)
    ∧ (0 < r → 0 < s.pos.speed → (timeToPoint e d s : Int) = min 16777215 (r * 1024 / (s.pos.speed : Int)))
    ∧ timeToPoint e d s ≤ 16777215

/-- R32, R33: a sample that is no rising edge, or an edge that is suppressed, changes nothing but the held level; a falling
edge has no other effect; that the commands carry samples, so that a high one after a high one changes nothing, is log 29. R5,
R8: an edge that is captured meets a full queue, is refused, or creates an item at the position count. Flag bits: QUEUE_FULL
15, ENTRY_REFUSED 14; counts: untracked items 0, refused entries 1. -/
def Obligations.SensorEdgeCases : Prop :=
  (∀ s : State,
     (s.pos.sensor = true → exec .sensorRisingEdge s = .next s)
     ∧ (s.port.settings.entrySource ≠ .sensor ∨ s.port.mode = .halt ∨ s.pos.direction = .backward →
         exec .sensorRisingEdge s = .next { s with pos.sensor := true })
     ∧ exec .infeedSensorFallingEdge s = .next { s with pos.sensor := false })
  ∧ (∀ s : State, s.pos.sensor = false → s.port.settings.entrySource = .sensor → s.port.mode ≠ .halt → s.pos.direction = .forward →
       let seen : State := { s with pos.sensor := true }
       (128 ≤ s.queue.items.length → exec .sensorRisingEdge s = .next (noted 15 0 seen))
       ∧ (s.queue.items.length < 128 → ¬ farEnough s.pos.position s → exec .sensorRisingEdge s = .next (noted 14 1 seen))
       ∧ (s.queue.items.length < 128 → farEnough s.pos.position s →
           exec .sensorRisingEdge s = .next (withCreation s.pos.position seen)))

/-! ## Items (chapter 1) -/

/-- R7: ANNOUNCE ITEM, by the first case that applies. Codes: request 8; OK 0, FULL 2, INVALID 3, WRONG_MODE 8. -/
def Obligations.AnnounceItemCases : Prop :=
  ∀ (back : Word16) (s : State), busy s = false →
    let e : Word32 := s.pos.position - back.setWidth 32
    let n := if s.plans.pendingSwap then s.plans.active.other else s.plans.active
    (s.port.mode = .halt ∨ s.port.settings.entrySource = .sensor → exec (.announceItem back) s = .next (taken 4 [8, 8] s))
    ∧ (s.port.mode ≠ .halt → s.port.settings.entrySource = .command →
        (128 ≤ s.queue.items.length → exec (.announceItem back) s = .next (taken 4 [8, 2] (noted 15 0 s)))
        ∧ (s.queue.items.length < 128 → ¬ farEnough e s → exec (.announceItem back) s = .next (taken 4 [8, 3] s))
        ∧ (s.queue.items.length < 128 → farEnough e s →
            exec (.announceItem back) s = .next (taken 4
              ([8, 0] ++ bytes2 s.queue.nextTag.val ++ [if n = .a then 0 else 1] ++ bytes4 e.toNat) (withCreation e s))))

/-- R9: an address finds the record that carries a tag, or stands at a depth; the three ways to find none. -/
def Obligations.AddressFindsTheRecord : Prop :=
  ∀ (n : Word16) (s : State), (s.queue.items.map Item.tag).Nodup →
    (∀ (d : Nat) (i : Item), s.queue.items[d]? = some i → i.tag.val = n.toNat → address 0 n s = .found d i)
    ∧ (n.toNat ≤ 1023 → (∀ i ∈ s.queue.items, i.tag.val ≠ n.toNat) → address 0 n s = .noItem)
    ∧ (1023 < n.toNat → address 0 n s = .outOfRange)
    ∧ (∀ i : Item, n.toNat ≤ 127 → s.queue.items[n.toNat]? = some i → address 1 n s = .found n.toNat i)
    ∧ (n.toNat ≤ 127 → s.queue.items.length ≤ n.toNat → address 1 n s = .noItem)
    ∧ (127 < n.toNat → address 1 n s = .outOfRange)
    ∧ (∀ m : Byte, 2 ≤ m.toNat → address m n s = .outOfRange)

/-- R10, R169: READ ITEM and QUERY ITEM answer the same item view and change nothing else. Codes: READ ITEM 11, QUERY ITEM 5;
OK 0, INVALID 3, NO_ITEM 4. -/
def Obligations.ItemViewIsTheSameForBothMasters : Prop :=
  ∀ (number mode : Byte) (n : Word16) (s : State),
    (address mode n s = .outOfRange →
      (busy s = false → exec (.readItem mode n) s = .next (taken 5 [11, 3] s))
      ∧ (s.link.state = .up → noPartial s → exec (.queryItem number mode n) s =
          .next (replied { kind := 5, number := number, result := .invalid, body := [] } s)))
    ∧ (address mode n s = .noItem →
      (busy s = false → exec (.readItem mode n) s = .next (taken 5 [11, 4] s))
      ∧ (s.link.state = .up → noPartial s → exec (.queryItem number mode n) s =
          .next (replied { kind := 5, number := number, result := .noItem, body := [] } s)))
    ∧ (∀ d i, address mode n s = .found d i → ∃ v : Report,
      v.kind = .view ∧ v.tag = i.tag ∧ v.bank = i.bank ∧ v.entry = i.entry ∧ v.phase = i.phase ∧ v.depth = d
      ∧ v.gateOutcome = i.gateOutcome ∧ v.verdict = i.verdict ∧ v.force = i.force ∧ v.decision = i.decision
      ∧ v.toPoint = timeToPoint i.entry (planOf i.bank s).decision s
      ∧ (∀ st : Station, v.stations[st].outcome = i.stations[st]
          ∧ (v.stations[st].present = true ↔ ∃ id, i.stations[st].frameId? = some id ∧ (frameOf id s).state ≠ .free
              ∧ (frameOf id s).tag = i.tag ∧ (frameOf id s).bank = i.bank ∧ (frameOf id s).station = st))
      ∧ (busy s = false → exec (.readItem mode n) s = .next (taken 5 ([11, 0] ++ v.bytes) s))
      ∧ (s.link.state = .up → noPartial s → exec (.queryItem number mode n) s =
          .next (replied { kind := 5, number := number, result := .ok, body := v.bytes } s)))

/-- R12: VOID ITEM by the record's phase. Codes: request 9; OK 0, INVALID 3, NO_ITEM 4, VOID 5, TOO_LATE 6. -/
def Obligations.VoidItemAnswersByPhase : Prop :=
  ∀ (mode : Byte) (n : Word16) (s : State), busy s = false →
    (address mode n s = .outOfRange → exec (.voidItem mode n) s = .next (taken 5 [9, 3] s))
    ∧ (address mode n s = .noItem → exec (.voidItem mode n) s = .next (taken 5 [9, 4] s))
    ∧ (∀ d i, address mode n s = .found d i →
        (i.phase = .firing ∨ i.phase = .passed → exec (.voidItem mode n) s = .next (taken 5 [9, 6] s))
        ∧ (i.phase = .void → exec (.voidItem mode n) s = .next (taken 5 [9, 5] s))
        ∧ (i.phase = .entered ∨ i.phase = .complete ∨ i.phase = .decided →
            ∃ t, exec (.voidItem mode n) s = .next t ∧ t.port.buffer = .busy [9, 0, i.phase.code]))

/-- What a void does (R13 to R15, R81, R112, R132). Where the head may not retire at once: the record is VOID, its WAITING
stations are SKIPPED, every other field stays; its queued triggers and timeouts go, its trains stay; no event, no count. A
fire of the item leaves its gate's list and the output does not change. Each of the item's frame records becomes DONE, one
that nothing holds is freed, a deadline or background transmission open on it is marked for abort, a region is not touched. -/
def Obligations.VoidReachesEveryUnit : Prop :=
  (∀ (mode : Byte) (n : Word16) (d : Nat) (i : Item) (s t : State), busy s = false → (s.queue.items.map Item.tag).Nodup →
     address mode n s = .found d i → (i.phase = .entered ∨ i.phase = .complete ∨ i.phase = .decided) →
     (∀ j, s.queue.items.head? = some j → ¬ reached s.pos.position (j.entry + (planOf j.bank s).exit.setWidth 32)) →
     exec (.voidItem mode n) s = .next t →
     (∃ v : Item, t.queue.items = s.queue.items.set d v ∧ v = { i with phase := .void, stations := v.stations }
       ∧ ∀ st : Station, v.stations[st] = if i.stations[st] = .waiting then .skipped else i.stations[st])
     ∧ (∀ st : Station, t.trig[st].slot = s.trig[st].slot
         ∧ t.trig[st].queue = s.trig[st].queue.filter (fun e => !(decide (e.tag = i.tag) && decide (e.bank = i.bank)))
         ∧ t.trig[st].timeouts = s.trig[st].timeouts.filter (fun e => !(decide (e.tag = i.tag) && decide (e.bank = i.bank))))
     ∧ t.port.flags = s.port.flags ∧ t.port.counts = s.port.counts ∧ t.uplink.reports = s.uplink.reports
     ∧ t.queue.nextTag = s.queue.nextTag ∧ t.plans = s.plans ∧ t.pos = s.pos ∧ t.link = s.link)
  ∧ (∀ (mode : Byte) (n : Word16) (d : Nat) (i : Item) (s t : State), busy s = false →
       address mode n s = .found d i → i.phase = .decided → exec (.voidItem mode n) s = .next t →
       (∀ c, i.decision = some { action := .reject, cause := c } →
         t.gates = { s.gates with reject.fires := s.gates.reject.fires.filter fun f => f.tag != i.tag })
       ∧ (∀ c, i.decision = some { action := .rework, cause := c } →
         t.gates = { s.gates with rework.fires := s.gates.rework.fires.filter fun f => f.tag != i.tag }))
  ∧ (∀ (mode : Byte) (n : Word16) (d : Nat) (i : Item) (s t : State) (st : Station) (id : FrameId), busy s = false →
       address mode n s = .found d i → (i.phase = .entered ∨ i.phase = .complete ∨ i.phase = .decided) →
       exec (.voidItem mode n) s = .next t → references i st s = some id →
       let done : FrameRecord := { frameOf id s with cls := .done }
       frameOf id t = (if done.state = .ready ∧ done.k0 = false ∧ done.k1 = false ∧ done.openTx = 0 then FrameRecord.freed else done)
         ∧ (∀ x, s.uplink.deadline = some x → x.frame = id → t.uplink.deadline = some { x with abort := true })
         ∧ (∀ x, s.uplink.background = some x → x.frame = id → t.uplink.background = some { x with abort := true })
         ∧ t.uplink.region = s.uplink.region)

/-! ## Plans (chapter 3) -/

/-- R43 and R44: WRITE PLAN with a field out of range is INVALID (3), whatever the Plan Store's state, and names the place of
the first (R192, 12.8): the bank at 0, station k's flags byte at 1 + 5k, the width at 50. With every field in range it is
refused with PLAN_PENDING (11) or PLAN_IN_USE (12), or replaces the named bank whole, which becomes INVALID. R50, 12.8: READ
PLAN returns the named bank in the layout of WRITE PLAN, its validity, whether it is active, the pending-swap flag and both
in-use counts, and changes nothing. -/
def Obligations.WriteAndReadPlanCases : Prop :=
  (∀ (p : PlanPayload) (n : BankName) (s : State), busy s = false →
     p.bank = (if n = .a then 0 else 1) → (∀ st : Station, p.stations[st].flags.toNat ≤ 3) → 1 ≤ p.width.toNat →
     (s.plans.pendingSwap = true → exec (.writePlan p) s = .next (taken 57 [5, 11] s))
     ∧ (s.plans.pendingSwap = false → (n = s.plans.active ∨ 0 < (bankOf n s).inUse) →
         exec (.writePlan p) s = .next (taken 57 [5, 12] s))
     ∧ (s.plans.pendingSwap = false → n ≠ s.plans.active → (bankOf n s).inUse = 0 →
         ∃ t, exec (.writePlan p) s = .next (taken 57 [5, 0, p.bank] t)
           ∧ t = { s with plans := t.plans } ∧ bankOf n.other t = bankOf n.other s ∧ t.plans.active = s.plans.active
           ∧ t.plans.pendingSwap = false ∧ (bankOf n t).valid = false ∧ (bankOf n t).inUse = 0
           ∧ (∀ st : Station, (planOf n t).stations[st] =
               { enable := p.stations[st].flags.getLsbD 0, strobe := p.stations[st].flags.getLsbD 1,
                 offset := p.stations[st].offset, exposure := p.stations[st].exposure })
           ∧ (planOf n t).decision = p.decision ∧ (planOf n t).rejectGate = p.rejectGate ∧ (planOf n t).reworkGate = p.reworkGate
           ∧ (planOf n t).width = p.width ∧ (planOf n t).exit = p.exit))
  ∧ (∀ (p : PlanPayload) (s : State), busy s = false →
       (2 ≤ p.bank.toNat → exec (.writePlan p) s = .next (taken 57 [5, 3, 0] s))
       ∧ (∀ k : Station, p.bank.toNat ≤ 1 → (∀ j : Station, j < k → p.stations[j].flags.toNat ≤ 3) → 4 ≤ p.stations[k].flags.toNat →
           exec (.writePlan p) s = .next (taken 57 [5, 3, BitVec.ofNat 8 (1 + 5 * k.val)] s))
       ∧ (p.bank.toNat ≤ 1 → (∀ k : Station, p.stations[k].flags.toNat ≤ 3) → p.width = 0 →
           exec (.writePlan p) s = .next (taken 57 [5, 3, 50] s)))
  ∧ (∀ s : State, busy s = false →
       (∀ bank : Byte, 2 ≤ bank.toNat → exec (.readPlan bank) s = .next (taken 3 [7, 3] s))
       ∧ (∀ n : BankName, ∃ p : PlanPayload,
           exec (.readPlan (if n = .a then 0 else 1)) s = .next (taken 3 ([7, 0] ++ p.bytes
               ++ [if (bankOf n s).valid then 1 else 0, if s.plans.active = n then 1 else 0, if s.plans.pendingSwap then 1 else 0]
               ++ bytes2 s.plans.a.inUse ++ bytes2 s.plans.b.inUse) s)
           ∧ p.bank = (if n = .a then 0 else 1) ∧ p.decision = (planOf n s).decision ∧ p.rejectGate = (planOf n s).rejectGate
           ∧ p.reworkGate = (planOf n s).reworkGate ∧ p.width = (planOf n s).width ∧ p.exit = (planOf n s).exit
           ∧ ∀ st : Station, p.stations[st].flags = (if (planOf n s).stations[st].enable then 1 else 0)
                   + (if (planOf n s).stations[st].strobe then 2 else 0)
               ∧ p.stations[st].offset = (planOf n s).stations[st].offset
               ∧ p.stations[st].exposure = (planOf n s).stations[st].exposure))

/-- R45: the first of the six conditions that a plan breaks, and for condition 2 the lowest enabled station that breaks it;
none exactly when all six hold. R46, R47: COMMIT PLAN, the first case that applies. Codes: request 6; OK 0, INVALID 3,
PLAN_INVALID 10, PLAN_PENDING 11; outcomes ALREADY_ACTIVE 0, SWAPPED 1, PENDING 2; bit 1 of the flags is PLAN_SWAPPED. -/
def Obligations.CommitPlanCases : Prop :=
  (∀ p : Plan,
     let c1 := ∃ st : Station, p.stations[st].enable = true
     let bad2 (st : Station) := p.stations[st].enable = true ∧ p.decision.toNat ≤ p.stations[st].offset.toNat
     let c3 := p.decision.toNat < p.rejectGate.toNat
     let c4 := p.decision.toNat < p.reworkGate.toNat
     let c5 := p.rejectGate.toNat + p.width.toNat ≤ p.exit.toNat
     let c6 := p.reworkGate.toNat + p.width.toNat ≤ p.exit.toNat
     (p.firstFailure = none ↔ c1 ∧ (∀ st, ¬ bad2 st) ∧ c3 ∧ c4 ∧ c5 ∧ c6)
     ∧ (¬ c1 → p.firstFailure = some (1, 0))
     ∧ (∀ st, c1 → bad2 st → (∀ k, k < st → ¬ bad2 k) → p.firstFailure = some (2, st.val))
     ∧ (c1 → (∀ st, ¬ bad2 st) → (¬ c3 → p.firstFailure = some (3, 0)) ∧ (c3 → ¬ c4 → p.firstFailure = some (4, 0))
         ∧ (c3 → c4 → ¬ c5 → p.firstFailure = some (5, 0)) ∧ (c3 → c4 → c5 → ¬ c6 → p.firstFailure = some (6, 0))))
  ∧ (∀ (n : BankName) (s : State), busy s = false →
       let byte : Byte := if n = .a then 0 else 1
       let marked (v : Bool) : State := updBank n (fun b => { b with valid := v }) s
       (∀ bank : Byte, 2 ≤ bank.toNat → exec (.commitPlan bank) s = .next (taken 3 [6, 3] s))
       ∧ (s.plans.pendingSwap = true → exec (.commitPlan byte) s = .next (taken 3 [6, 11] s))
       ∧ (s.plans.pendingSwap = false →
           (∀ c st, (planOf n s).firstFailure = some (c, st) →
             exec (.commitPlan byte) s = .next (taken 3 [6, 10, BitVec.ofNat 8 c, BitVec.ofNat 8 st] (marked false)))
           ∧ ((planOf n s).firstFailure = none →
             (n = s.plans.active → exec (.commitPlan byte) s = .next (taken 3 [6, 0, byte, 0] (marked true)))
             ∧ (n ≠ s.plans.active → s.port.mode = .halt → exec (.commitPlan byte) s = .next (taken 3 [6, 0, byte, 1]
                 { marked true with plans.active := n, plans.pendingSwap := false, port.flags := s.port.flags ||| (1#16 <<< 1) }))
             ∧ (n ≠ s.plans.active → s.port.mode ≠ .halt → exec (.commitPlan byte) s = .next (taken 3 [6, 0, byte, 2]
                 { marked true with plans.pendingSwap := true })))))

/-! ## Verdicts and decisions (chapter 4) -/

/-- R55 and R56: VERDICT with the link UP, the first case that applies. R58 and R59: FORCE DECISION, the first case that
applies; codes: request 10; OK 0, INVALID 3, NO_ITEM 4, VOID 5, TOO_LATE 6. A refusal leaves the record as it was. -/
def Obligations.VerdictAndForceCases : Prop :=
  (∀ (number mode : Byte) (n : Word16) (action mask : Byte) (s : State), s.link.state = .up → noPartial s →
     let answer (result : Result) (body : List Byte) (u : State) : Prop :=
       exec (.verdict number mode n action mask) s = .next (replied { kind := 1, number := number, result := result, body := body } u)
     let stored (i : Item) (v : Verdict) : State :=
       { s with queue.items := s.queue.items.map fun j => if j.tag = i.tag then { j with verdict := some v } else j }
     (3 ≤ action.toNat ∨ address mode n s = .outOfRange → answer .invalid [] s)
     ∧ (action.toNat ≤ 2 → address mode n s = .noItem → answer .noItem [] s)
     ∧ (∀ (a : Action) (d : Nat) (i : Item), a.code = action → address mode n s = .found d i →
         (i.phase = .void → answer .void (bytes2 i.tag.val ++ [0] ++ decisionBytes i.decision) s)
         ∧ (i.phase ≠ .void → i.decision ≠ none → answer .late (bytes2 i.tag.val ++ [0] ++ decisionBytes i.decision) s)
         ∧ (i.phase ≠ .void → i.decision = none → i.verdict = none →
             answer .ok (bytes2 i.tag.val ++ [0, 0, 0, 0]) (stored i { action := a, failMask := mask, revision := 0 }))
         ∧ (∀ v, i.phase ≠ .void → i.decision = none → i.verdict = some v →
             let r : Byte := BitVec.ofNat 8 (min 255 (v.revision.toNat + 1))
             answer .revised (bytes2 i.tag.val ++ [r, 0, 0, 0]) (stored i { action := a, failMask := mask, revision := r }))))
  ∧ (∀ (mode : Byte) (n : Word16) (action : Byte) (s : State), busy s = false →
       let answer (bytes : List Byte) (u : State) : Prop := exec (.forceDecision mode n action) s = .next (taken 6 (10 :: bytes) u)
       (3 ≤ action.toNat ∨ address mode n s = .outOfRange → answer [3] s)
       ∧ (action.toNat ≤ 2 → address mode n s = .noItem → answer [4] s)
       ∧ (∀ (a : Action) (d : Nat) (i : Item), a.code = action → address mode n s = .found d i →
           (i.phase = .void → answer ([5] ++ bytes2 i.tag.val ++ [0, 0] ++ decisionBytes i.decision) s)
           ∧ (i.phase ≠ .void → i.decision ≠ none → answer ([6] ++ bytes2 i.tag.val ++ [0, 0] ++ decisionBytes i.decision) s)
           ∧ (i.phase ≠ .void → i.decision = none →
               answer ([0] ++ bytes2 i.tag.val ++ (match i.force with | some b => [1, b.code] | none => [0, 0]) ++ [0, 0, 0])
                 { s with queue.items := s.queue.items.map fun j => if j.tag = i.tag then { j with force := some a } else j })))

/-- R60: an examination of an item that is not due changes nothing, nor does one of a tag that no record carries, the model's
choice (log 9). R61 to R64, R67: the decision of an item that is due, with action and cause by the table, where the head may
not retire: the record, the counts and flags (STATION_FAULT bit 10, DEFAULT_DECISION bit 8; counts 5 and 8), and the decision
report with its snapshot, the present flags as the decision leaves the frames (log 11). -/
def Obligations.DecisionFollowsTheTable : Prop :=
  (∀ (tag : Tag) (s : State), (∀ i, itemOf? tag s = some i → ¬ dueForDecision i s) →
     exec (.decisionExaminationAtCreation tag) s = .next s)
  ∧ (∀ (tag : Tag) (i : Item) (s : State), (s.queue.items.map Item.tag).Nodup → itemOf? tag s = some i → dueForDecision i s →
       headStays s →
       let d := tableR61 i s
       ∃ (t : State) (r : Report), exec (.decisionExaminationAtCreation tag) s = .next t
         ∧ t.queue.items = s.queue.items.map (fun j => if j.tag = tag then decidedRecord i d else j)
         ∧ t.queue.nextTag = s.queue.nextTag ∧ t.plans = s.plans ∧ t.pos = s.pos ∧ t.link = s.link
         ∧ t.uplink.reports = joinReports r s.uplink.reports
         ∧ (r.kind = .decision ∧ r.tag = tag ∧ r.bank = i.bank ∧ r.entry = i.entry ∧ r.decision = some d ∧ r.verdict = i.verdict
             ∧ r.force = i.force ∧ (r.autoKept = true ↔ tableR66 (decidedRecord i d) d s) ∧ r.position = s.pos.position
             ∧ r.time = s.pos.time ∧ r.speed = s.pos.speed
             ∧ ∀ st : Station, r.stations[st].outcome = (decidedRecord i d).stations[st]
               ∧ (r.stations[st].present = true ↔ ∃ id, references i st s = some id ∧ (frameOf id t).state ≠ .free))
         ∧ (t.port.counts[(5 : Fin 14)].toNat = min 65535 (s.port.counts[(5 : Fin 14)].toNat + unresolvedStations i))
         ∧ (t.port.counts[(8 : Fin 14)] =
             if d.cause = .forced ∨ d.cause = .verdict then s.port.counts[(8 : Fin 14)] else oneMore s.port.counts[(8 : Fin 14)])
         ∧ (t.port.flags.getLsbD 8 = true ↔ s.port.flags.getLsbD 8 = true ∨ (d.cause ≠ .forced ∧ d.cause ≠ .verdict))
         ∧ (t.port.flags.getLsbD 10 = true ↔ s.port.flags.getLsbD 10 = true ∨ 0 < unresolvedStations i))

/-- R63, R81: at a decision the item's queued triggers and timeouts are removed at every station, and its trains run on. R65,
R66, R112: each frame record of the item takes its class by the table and K0 by auto-keep, and one that becomes DONE with
nothing holding it is freed. R64, R147: REJECT or REWORK places one SCHEDULED fire on that gate's list, after every entry at
or before its start that stands before the first one beyond it, and leaves the other gate and both outputs. -/
def Obligations.DecisionReachesTheUnits : Prop :=
  (∀ (tag : Tag) (i : Item) (s t : State) (st : Station), itemOf? tag s = some i → dueForDecision i s →
     exec (.decisionExaminationAtCreation tag) s = .next t →
     t.trig[st] = { slot := s.trig[st].slot
                    queue := s.trig[st].queue.filter fun e => !(decide (e.tag = tag) && decide (e.bank = i.bank))
                    timeouts := s.trig[st].timeouts.filter fun e => !(decide (e.tag = tag) && decide (e.bank = i.bank)) })
  ∧ (∀ (tag : Tag) (i : Item) (s t : State) (st : Station) (id : FrameId), itemOf? tag s = some i → dueForDecision i s →
       exec (.decisionExaminationAtCreation tag) s = .next t → references i st s = some id →
       let d := tableR61 i s
       ∀ after : FrameRecord,
         after = { frameOf id s with
           cls := if (frameOf id s).cls = .deadline then (if (frameOf id s).best = .full then .done else .background)
             else (frameOf id s).cls
           k0 := after.k0 } →
         (after.k0 = true ↔ (frameOf id s).k0 = true ∨ tableR66 (decidedRecord i d) d s) →
         frameOf id t = if after.state = .ready ∧ after.cls = .done ∧ after.k0 = false ∧ after.k1 = false ∧ after.openTx = 0
           then FrameRecord.freed else after)
  ∧ (∀ (tag : Tag) (i : Item) (s t : State) (g : Gate), itemOf? tag s = some i → dueForDecision i s →
       (tableR61 i s).action = (match g with | .reject => .reject | .rework => .rework) →
       exec (.decisionExaminationAtCreation tag) s = .next t →
       let p := planOf i.bank s
       let start : Word32 := i.entry + (match g with | .reject => p.rejectGate | .rework => p.reworkGate).setWidth 32
       ∃ before after : List Fire, (gateOf g s).fires = before ++ after
         ∧ gateOf g t = { output := (gateOf g s).output
                          fires := before ++ { tag := tag, start := start, stop := start + p.width.setWidth 32,
                                               status := .scheduled } :: after }
         ∧ (∀ e ∈ before, (e.start - start).toInt ≤ 0) ∧ (∀ e, after.head? = some e → 0 < (e.start - start).toInt)
         ∧ (∀ h : Gate, h ≠ g → gateOf h t = gateOf h s) ∧ t.gates.lamp = s.gates.lamp)

/-! ## Station triggers (chapter 5) -/

/-- R189: the check of a trigger word is the exclusive-or of its five upper groups, in bits 3 to 0; it agrees in every word
that is built; a header whose echo does not agree is a header fault whatever else it holds; the manual's example. -/
def Obligations.TriggerCheckIsTheExclusiveOr : Prop :=
  (∀ (tag : Tag) (bank : BankName) (strobe : Bool) (exposure : Byte),
    let w := triggerWord tag bank strobe exposure
    w.extractLsb' 0 4 = (w.extractLsb' 20 4 ^^^ w.extractLsb' 16 4 ^^^ w.extractLsb' 12 4 ^^^ w.extractLsb' 8 4 ^^^ w.extractLsb' 4 4)
      ∧ w.extractLsb' 14 10 = BitVec.ofNat 10 tag.val ∧ w.getLsbD 13 = (bank == .b) ∧ w.getLsbD 12 = strobe
      ∧ w.extractLsb' 4 8 = exposure ∧ wordTag w = tag ∧ wordBank w = bank)
  ∧ (∀ (p : Station) (w : Word24) (width height : Word16) (depth : Byte) (s : State), betweenFrames p s →
      w.extractLsb' 0 4 ≠ (w.extractLsb' 20 4 ^^^ w.extractLsb' 16 4 ^^^ w.extractLsb' 12 4 ^^^ w.extractLsb' 8 4
        ^^^ w.extractLsb' 4 4) →
      exec (.frameHeader p (.complete w width height depth)) s = .next (withPort p .discard s.ingest.ports[p].fifo (noted 11 4 s)))
  ∧ triggerWord 517 .a false 40 = 0x814287#24

/-- R72, R73, R77: at the examination of an item in RUN, each station that falls due starts its train on a free line, joins a
queue of fewer than four, or is OVERRUN, which raises STATION_FAULT (bit 10) and counts one station fault (5) each; each other
station, record, flag and count is as before, and so is everything else. In TRACK_ONLY each station that falls due becomes
SKIPPED with no trigger, event or count. An ENTERED record whose last unresolved station this was goes to COMPLETE (R11). In
HALT nothing falls due, and an examination of a tag with no record changes nothing, the model's choice (log 9). -/
def Obligations.StationsFallDue : Prop :=
  (∀ (tag : Tag) (i : Item) (s : State), (s.queue.items.map Item.tag).Nodup → itemOf? tag s = some i → s.port.mode = .run →
     ∃ (t : State) (r : Item), exec (.triggerExaminationAtCreation tag) s = .next t
       ∧ t = { s with trig := t.trig, queue.items := s.queue.items.map fun j => if j.tag = tag then r else j,
                      port.flags := t.port.flags, port.counts := t.port.counts }
       ∧ r = { i with stations := r.stations, phase := r.phase }
       ∧ (∀ st : Station,
         (¬ stationDue i st s → t.trig[st] = s.trig[st])
         ∧ (stationDue i st s → s.trig[st].slot = none →
             t.trig[st] = { s.trig[st] with slot := some (trainNow (entryFor i st s) s) })
         ∧ (stationDue i st s → s.trig[st].slot ≠ none → s.trig[st].queue.length < 4 →
             t.trig[st] = { s.trig[st] with queue := s.trig[st].queue ++ [entryFor i st s] })
         ∧ (stationDue i st s → s.trig[st].slot ≠ none → 4 ≤ s.trig[st].queue.length →
             t.trig[st] = s.trig[st] ∧ r.stations[st] = .overrun)
         ∧ (¬ stationDue i st s ∨ s.trig[st].slot = none ∨ s.trig[st].queue.length < 4 → r.stations[st] = i.stations[st]))
       ∧ (let overruns : Nat := (List.finRange 8).countP fun st : Fin 8 => r.stations[st] == .overrun && i.stations[st] != .overrun
         t.port.counts[(5 : Fin 14)].toNat = min 65535 (s.port.counts[(5 : Fin 14)].toNat + overruns)
         ∧ (∀ k : Fin 14, k ≠ 5 → t.port.counts[k] = s.port.counts[k])
         ∧ t.port.flags = (if overruns = 0 then s.port.flags else s.port.flags ||| (1#16 <<< 10))
         ∧ r.phase = (if 0 < overruns ∧ i.phase = .entered ∧ unresolvedStations r = 0 then .complete else i.phase)))
  ∧ (∀ (tag : Tag) (s : State),
       (itemOf? tag s = none ∨ s.port.mode = .halt → exec (.triggerExaminationAtCreation tag) s = .next s)
       ∧ (∀ i, itemOf? tag s = some i → s.port.mode = .trackOnly →
           ∃ (t : State) (j : Item), exec (.triggerExaminationAtCreation tag) s = .next t ∧ t = { s with queue.items := t.queue.items }
             ∧ itemOf? tag t = some j ∧ j = { i with stations := j.stations, phase := j.phase }
             ∧ (∀ st : Station, (stationDue i st s → j.stations[st] = .skipped) ∧ (¬ stationDue i st s → j.stations[st] = i.stations[st]))
             ∧ ((∃ st : Station, stationDue i st s) → i.phase = .entered → unresolvedStations j = 0 → j.phase = .complete)
             ∧ ((∀ st : Station, ¬ stationDue i st s) ∨ i.phase ≠ .entered ∨ 0 < unresolvedStations j → j.phase = i.phase)))

/-- R75, R76: at the end of a train the station of a live item that is still WAITING becomes TRIGGERED and its timeout
starts; otherwise nothing is recorded; then the head of the queue starts at once, or the slot is empty. Before the end,
and with no train, nothing changes, the model's choice (log 2). -/
def Obligations.TrainEndStartsTheTimeout : Prop :=
  ∀ (st : Station) (s : State),
    (s.trig[st].slot = none → exec (.trainEnd st) s = .next s)
    ∧ (∀ tr, s.trig[st].slot = some tr →
        let ended := reached s.pos.time (tr.start + BitVec.ofNat 32 (26 * tr.period))
        let next : StationTriggers :=
          { s.trig[st] with slot := s.trig[st].queue.head?.map fun e => trainNow e s, queue := s.trig[st].queue.tail }
        let live (i : Item) : Prop := liveItem? tr.tag tr.bank s = some i ∧ i.stations[st] = .waiting
        (¬ ended → exec (.trainEnd st) s = .next s)
        ∧ (ended → (∀ i, ¬ live i) → exec (.trainEnd st) s = .next { s with trig := s.trig.set st.val next st.isLt })
        ∧ (∀ i, ended → live i → exec (.trainEnd st) s = .next { s with
            queue.items := s.queue.items.map fun j => if j.tag = tr.tag then j.withStation st .triggered else j
            trig := s.trig.set st.val { next with timeouts := s.trig[st].timeouts ++
              [{ tag := tr.tag, bank := tr.bank,
                 expiry := s.pos.time + BitVec.ofNat 32 s.port.settings.cameraTimeout }] } st.isLt }))

/-- R78: an entry whose expiry is reached leaves the list, and a TRIGGERED station becomes MISSING, raised and counted; an
expiry before its time, or with an empty list, changes nothing, the model's choice (log 2). R11: a station outcome that
changes takes an ENTERED record with no station left WAITING or TRIGGERED to COMPLETE in the same step, and changes no other
field and no other phase. -/
def Obligations.TimeoutMakesTheStationMissing : Prop :=
  (∀ (st : Station) (s : State),
     (s.trig[st].timeouts = [] → exec (.cameraTimeoutExpiry st) s = .next s)
     ∧ (∀ e rest, s.trig[st].timeouts = e :: rest →
         let removed : State := { s with trig := s.trig.set st.val { s.trig[st] with timeouts := rest } st.isLt }
         let live (i : Item) : Prop := liveItem? e.tag e.bank s = some i ∧ i.stations[st] = .triggered
         (¬ reached s.pos.time e.expiry → exec (.cameraTimeoutExpiry st) s = .next s)
         ∧ (reached s.pos.time e.expiry → (∀ i, ¬ live i) → exec (.cameraTimeoutExpiry st) s = .next removed)
         ∧ (∀ i, reached s.pos.time e.expiry → live i → exec (.cameraTimeoutExpiry st) s = .next (noted 10 5
             { removed with queue.items := s.queue.items.map fun j => if j.tag = e.tag then j.withStation st .missing else j }))))
  ∧ (∀ (i : Item) (st : Station) (o : StationOutcome),
       let j := i.withStation st o
       j = { i with stations := i.stations.set st.val o st.isLt, phase := j.phase }
         ∧ (i.phase = .entered → (∀ k : Station, j.stations[k] ≠ .waiting ∧ j.stations[k] ≠ .triggered) → j.phase = .complete)
         ∧ (i.phase ≠ .entered ∨ (∃ k : Station, j.stations[k] = .waiting ∨ j.stations[k] = .triggered) → j.phase = i.phase))

/-! ## Camera ingest and the frame store (chapters 6 and 7) -/

/-- R87, R88: a header where one may begin, its checks in order; flag bits HEADER_FAULT 11, ORPHAN_FRAME 13, DUPLICATE_FRAME
12; counts 4, 2 and 3. The table of R87, character by character (log 23 says which patterns a command carries). A sync
pattern: HEADER from HUNT and DISCARD, a header fault in HEADER; in PIXELS and TRAILER it ends the open frame. An end pattern:
nothing in HUNT and DISCARD, a header fault in HEADER, TRAILER from PIXELS. A data byte: nothing in HUNT and DISCARD,
collected in HEADER and TRAILER, and the eighth or sixth is the arrival of the header or trailer. A header that finds a frame
open, or a partial header, is that of its sync pattern, then of the rest; a trailer that a pattern cuts off likewise of its
end pattern. -/
def Obligations.HeaderChecksInOrder : Prop :=
  (∀ (p : Station) (word : Word24) (w h : Word16) (depth : Byte) (s : State), betweenFrames p s →
     let fifo := s.ingest.ports[p].fifo
     let header : Instr := .frameHeader p (.complete word w h depth)
     (¬ headerGood word w h depth → exec header s = .next (withPort p .discard fifo (noted 11 4 s)))
     ∧ (exec (.frameHeader p .cutBySync) s = .next (withPort p (.header []) fifo (noted 11 4 s)))
     ∧ (exec (.frameHeader p .cutByEnd) s = .next (withPort p .hunt fifo (noted 11 4 s)))
     ∧ (headerGood word w h depth → (∀ i ∈ s.queue.items, ¬ (i.tag = wordTag word ∧ i.bank = wordBank word)) →
         exec header s = .next (withPort p .discard fifo (noted 13 2 s)))
     ∧ (∀ i, headerGood word w h depth → liveItem? (wordTag word) (wordBank word) s = some i →
         i.stations[p].code ∈ [(0 : Byte), 3, 4, 5] → exec header s = .next (withPort p .discard fifo (noted 12 3 s))))
  ∧ (∀ (p : Station) (b : Byte) (s : State),
       let q := s.ingest.ports[p].parser
       let moves (x : Parser) (u : State) : State := withPort p x s.ingest.ports[p].fifo u
       let sync : Instr := .frameHeader p .pattern
       let end_ : Instr := .frameEndedWithoutTrailer p .pixelsByEnd
       (q = .hunt ∨ q = .discard →
           exec sync s = .next (moves (.header []) s) ∧ exec end_ s = .next s ∧ exec (.pixelByte p b) s = .next s
           ∧ ∀ (rows : Word16) (crc : Word32), exec (.frameTrailer p rows crc) s = .next s)
       ∧ (∀ l, q = .header l →
           exec sync s = .next (moves (.header []) (noted 11 4 s)) ∧ exec end_ s = .next (moves .hunt (noted 11 4 s))
           ∧ (∀ (rows : Word16) (crc : Word32), exec (.frameTrailer p rows crc) s = .next (moves .hunt (noted 11 4 s)))
           ∧ (l.length < 7 → exec (.pixelByte p b) s = .next (moves (.header (l ++ [b])) s))
           ∧ (l.length = 7 → exec (.pixelByte p b) s = exec (headerCommand p (l ++ [b])) (moves (.header []) s)))
       ∧ (∀ f, q = .pixels f → exec end_ s = .next (moves (.trailer f []) s))
       ∧ (∀ f l, q = .trailer f l →
           (l.length < 5 → exec (.pixelByte p b) s = .next (moves (.trailer f (l ++ [b])) s))
           ∧ (l.length = 5 → exec (.pixelByte p b) s = exec (trailerCommand p (l ++ [b])) (moves (.trailer f []) s)))
       ∧ exec sync s = exec (.frameEndedWithoutTrailer p .pixelsBySync) s
       ∧ (∀ (h : HeaderArrival) (u : State), h ≠ .pattern → q ≠ .header [] → exec sync s = .next u →
           exec (.frameHeader p h) s = exec (.frameHeader p h) u)
       ∧ (∀ u : State, (∀ f l, q ≠ .trailer f l) → exec end_ s = .next u →
           exec (.frameEndedWithoutTrailer p .trailerBySync) s = exec sync u
           ∧ exec (.frameEndedWithoutTrailer p .trailerByEnd) s = exec end_ u))

/-- R89 to R91: a matched header takes the lowest FREE record and the block at the head of the free list, where the watermark
calls for no eviction; the record's fields, the station's new outcome and the parser. R90, R119: one that can get no record,
or a record and no block, leaves the station DROPPED and raises STORE_PRESSURE (bit 9), and counts nothing; the record it had
goes back to FREE. R105, R117 to R119: with no record FREE the head of the reclaim list is evicted and counted and the header
goes on in the record that this frees; with a record FREE it takes what a block allocation leaves, evictions among it. -/
def Obligations.MatchedHeaderIsStoredOrDropped : Prop :=
  (∀ (p : Station) (word : Word24) (w h : Word16) (depth : Byte) (s : State) (i : Item) (id : FrameId) (b : Block)
     (rest : List Block), betweenFrames p s → headerGood word w h depth →
     liveItem? (wordTag word) (wordBank word) s = some i → i.stations[p].code ∉ [(0 : Byte), 3, 4, 5] →
     (frameOf id s).state = .free → (∀ k, k < id → (frameOf k s).state ≠ .free) → s.store.freeList = b :: rest →
     s.port.settings.watermark ≤ rest.length →
     exec (.frameHeader p (.complete word w h depth)) s = .next (withPort p
       (.pixels { frame := id, height := h.toNat, expected := w.toNat * h.toNat * (if depth = 12 then 2 else 1), received := 0,
                  crc := 0xFFFFFFFF#32, atHeader := i.stations[p] })
       (s.ingest.ports[p].fifo ++ [{ frame := id, bytes := [], marked := false, cut := false }])
       (stationWritten i p (outcomeAtHeader i.stations[p] id) { s with
         store.freeList := rest
         store.frames := s.store.frames.set id.val
           { state := .filling, tag := wordTag word, bank := wordBank word, station := p, width := w.toNat, height := h.toNat,
             depth := depth.toNat, payload := 0, blocks := [b], damaged := false, truncated := false, shed := false,
             cls := if i.phase = .void then .done else .none, best := .none, k0 := false, k1 := false, openTx := 0,
             shedNote := false } id.isLt })))
  ∧ (∀ (p : Station) (word : Word24) (w h : Word16) (depth : Byte) (s : State) (i : Item),
       betweenFrames p s → headerGood word w h depth → liveItem? (wordTag word) (wordBank word) s = some i →
       i.stations[p].code ∉ [(0 : Byte), 3, 4, 5] → s.store.reclaim = [] →
       let dropped (u : State) : State := withPort p .discard s.ingest.ports[p].fifo
         (stationWritten i p .dropped { u with port.flags := s.port.flags ||| (1#16 <<< 9) })
       ((∀ id, (frameOf id s).state ≠ .free) → exec (.frameHeader p (.complete word w h depth)) s = .next (dropped s))
       ∧ (∀ id, (frameOf id s).state = .free → (∀ k, k < id → (frameOf k s).state ≠ .free) → s.store.freeList = [] →
           exec (.frameHeader p (.complete word w h depth)) s =
             .next (dropped { s with store.frames := s.store.frames.set id.val FrameRecord.freed id.isLt })))
  ∧ (∀ (p : Station) (word : Word24) (w h : Word16) (depth : Byte) (s : State) (i : Item) (id : FrameId),
       betweenFrames p s → headerGood word w h depth → liveItem? (wordTag word) (wordBank word) s = some i →
       i.stations[p].code ∉ [(0 : Byte), 3, 4, 5] →
       let header : Instr := .frameHeader p (.complete word w h depth)
       let record : FrameRecord :=
         { FrameRecord.freed with state := .filling, tag := wordTag word, bank := wordBank word, station := p, width := w.toNat,
                                  height := h.toNat, depth := depth.toNat, cls := if i.phase = .void then .done else .none }
       ((∀ k, (frameOf k s).state ≠ .free) → s.store.reclaim.head? = some id → exec header s = exec header (evicted id s))
       ∧ ((frameOf id s).state = .free → (∀ k, k < id → (frameOf k s).state ≠ .free) →
           ∀ u, allocBlock id { s with store.frames := s.store.frames.set id.val record id.isLt } = (u, true) →
             exec header s = .next (withPort p
               (.pixels { frame := id, height := h.toNat, expected := w.toNat * h.toNat * (if depth = 12 then 2 else 1),
                          received := 0, crc := 0xFFFFFFFF#32, atHeader := i.stations[p] })
               (s.ingest.ports[p].fifo ++ [{ frame := id, bytes := [], marked := false, cut := false }])
               (stationWritten i p (outcomeAtHeader i.stations[p] id) u))))

/-- R105, R117 to R119: an allocation for a FILLING record fails exactly where the free list and the reclaim list are both
empty; it takes evictions from the head of the reclaim list, one count each, and stops with the watermark met or the list
empty. -/
def Obligations.AllocationEvictsFromTheHead : Prop :=
  ∀ (id : FrameId) (s : State), StoreConserved s → (frameOf id s).state = .filling →
    ((allocBlock id s).2 = false ↔ s.store.freeList = [] ∧ s.store.reclaim = [])
    ∧ (∀ t, allocBlock id s = (t, false) → t = { s with port.flags := s.port.flags ||| (1#16 <<< 9) })
    ∧ (∀ t, allocBlock id s = (t, true) → ∃ (k : Nat) (b : Block),
        k ≤ s.store.reclaim.length ∧ t.store.reclaim = s.store.reclaim.drop k
        ∧ b :: (t.store.freeList) = s.store.freeList ++ (s.store.reclaim.take k).flatMap (fun x => (frameOf x s).blocks)
        ∧ (frameOf id t).blocks = (frameOf id s).blocks ++ [b]
        ∧ (∀ x ∈ s.store.reclaim.take k, frameOf x t = FrameRecord.freed)
        ∧ (∀ x, x ≠ id → x ∉ s.store.reclaim.take k → frameOf x t = frameOf x s)
        ∧ (s.port.settings.watermark ≤ t.store.freeList.length ∨ t.store.reclaim = [])
        ∧ t.port.counts[(6 : Fin 14)].toNat = min 65535 (s.port.counts[(6 : Fin 14)].toNat + k)
        ∧ t.port.flags = s.port.flags)

/-- R92, R190: a pixel byte of the open frame is counted and goes into the CRC-32, and into the FIFO but where it is beyond
the expected payload or the frame's storing has been cut off; in HUNT and DISCARD a data byte changes nothing (R87). R93, R95:
one that meets 262,144 bytes in the FIFO is dropped; the frame is TRUNCATED and DAMAGED, its mark is placed and the parser
discards; where its item is live the station becomes DAMAGED and STATION_FAULT (bit 10) is raised, and it is counted (5)
unless the outcome at the header was MISSING or OVERRUN. -/
def Obligations.PixelByteCases : Prop :=
  (∀ (p : Station) (b : Byte) (s : State),
     (∀ f front last, s.ingest.ports[p].parser = .pixels f → s.ingest.ports[p].fifo = front ++ [last] →
       let received : OpenFrame := { f with received := f.received + 1, crc := crc32Byte f.crc b }
       (f.expected < f.received + 1 ∨ last.cut = true →
         exec (.pixelByte p b) s = .next (withPort p (.pixels received) s.ingest.ports[p].fifo s))
       ∧ (f.received + 1 ≤ f.expected → last.cut = false → (s.ingest.ports[p].fifo.flatMap FifoFrame.bytes).length < 262144 →
         exec (.pixelByte p b) s =
           .next (withPort p (.pixels received) (front ++ [{ last with bytes := last.bytes ++ [b] }]) s)))
     ∧ (s.ingest.ports[p].parser = .hunt ∨ s.ingest.ports[p].parser = .discard → exec (.pixelByte p b) s = .next s))
  ∧ (∀ (p : Station) (b : Byte) (f : OpenFrame) (front : List FifoFrame) (last : FifoFrame) (s : State),
       FifoSettled s.ingest.ports[p].fifo →
       s.ingest.ports[p].parser = .pixels f → s.ingest.ports[p].fifo = front ++ [last] → last.cut = false →
       f.received + 1 ≤ f.expected → 262144 ≤ (s.ingest.ports[p].fifo.flatMap FifoFrame.bytes).length →
       Fails (.pixelByte p b) f p { frameOf f.frame s with truncated := true, damaged := true }
         (withPort p .discard (front ++ [{ last with marked := true }])) s)

/-- R87, R94, R95, R98, R99: the end of an open frame. A trailer that agrees places the mark and changes nothing else; a
trailer that does not, or a frame cut off, also sets DAMAGED on record and station, raises STATION_FAULT (bit 10) and counts
it (5) unless the outcome at the header was MISSING or OVERRUN. Where the frame's storing has been cut off by truncation and
its mark reaches the head of the FIFO, the mark is removed and the frame ends at once: its record is READY with the class of
R99, or freed. A trailer whose end pattern finds TRAILER already with bytes collected ends the frame, and its bytes are
ignored (log 23). -/
def Obligations.FrameEndsAtItsTrailer : Prop :=
  ∀ (p : Station) (rows : Word16) (crc : Word32) (f : OpenFrame) (front : List FifoFrame) (last : FifoFrame) (s : State),
    FifoSettled s.ingest.ports[p].fifo → s.ingest.ports[p].fifo = front ++ [last] → last.frame = f.frame →
    let q := s.ingest.ports[p].parser
    let closed (x : Parser) (u : State) : State :=
      if last.cut = true ∧ front = [] then frameEnded f.frame (frameOf f.frame u) (withPort p x [] u)
      else withPort p x (front ++ [{ last with marked := true }]) u
    let good := crc = f.crc ∧ rows.toNat = f.height ∧ f.received = f.expected
    let failed (c : Instr) (x : Parser) : Prop := Fails c f p { frameOf f.frame s with damaged := true } (closed x) s
    (q = .pixels f ∨ q = .trailer f [] →
      (good → exec (.frameTrailer p rows crc) s = .next (closed .hunt s))
      ∧ (¬ good → failed (.frameTrailer p rows crc) .hunt))
    ∧ (∀ b l, q = .trailer f (b :: l) → failed (.frameTrailer p rows crc) .hunt)
    ∧ (q = .pixels f ∨ (∃ l, q = .trailer f l) →
      failed (.frameEndedWithoutTrailer p .pixelsBySync) (.header [])
      ∧ failed (.frameEndedWithoutTrailer p .trailerBySync) (.header [])
      ∧ failed (.frameEndedWithoutTrailer p .trailerByEnd) .hunt)
    ∧ (∀ l, q = .trailer f l → failed (.frameEndedWithoutTrailer p .pixelsByEnd) .hunt)

/-- R96: with the path free, the first ready port counting up from the pointer is granted, and the pointer stands behind it;
ready is a port whose head frame is not cut off and is marked, or has bytes to fill its current block. Where the block has
room or there is nothing to write, no block is asked for; with the path taken or no port ready nothing changes. R96, R98, R99:
a head frame that needs a further block takes one where it can be had. It is cut off where its record holds 128 already, or
where no block can be had, which alone raises STORE_PRESSURE (bit 9): TRUNCATED, its bytes in the FIFO removed, the grant
ended within the step of WRITE_GRANT, and the pointer moved on all the same (log 26); a frame whose mark has been placed
already ends at once. -/
def Obligations.WriteGrantCases : Prop :=
  (∀ s : State,
     let ready (p : Station) : Prop := ∃ f rest, s.ingest.ports[p].fifo = f :: rest ∧ f.cut = false
       ∧ (f.marked = true ∨ (let r := frameOf f.frame s
           let left := 65536 * r.blocks.length - r.payload
           (if left = 0 then 65536 else left) ≤ f.bytes.length))
     (s.ingest.grant ≠ none ∨ (∀ p, ¬ ready p) → exec .writeGrant s = .next s)
     ∧ (∀ (k : Fin 8), s.ingest.grant = none → ready (s.ingest.pointer + k) → (∀ j, j < k → ¬ ready (s.ingest.pointer + j)) →
         ∀ f rest, s.ingest.ports[s.ingest.pointer + k].fifo = f :: rest →
           (f.bytes = [] ∨ (frameOf f.frame s).payload < 65536 * (frameOf f.frame s).blocks.length) →
           exec .writeGrant s = .next { s with ingest.grant := some (s.ingest.pointer + k), ingest.pointer := s.ingest.pointer + k + 1 }))
  ∧ (∀ (s : State) (k : Fin 8) (f : FifoFrame) (rest : List FifoFrame), s.ingest.grant = none →
       (∀ j, j < k → portReady (s.ingest.pointer + j) s = false) →
       let p := s.ingest.pointer + k
       s.ingest.ports[p].fifo = f :: rest → f.cut = false → f.bytes ≠ [] → f.marked = true ∨ 65536 ≤ f.bytes.length →
       65536 * (frameOf f.frame s).blocks.length ≤ (frameOf f.frame s).payload →
       let moved : State := { s with ingest.pointer := p + 1 }
       let short : FrameRecord := { frameOf f.frame s with truncated := true }
       let cut (u : State) : State :=
         if f.marked then frameEnded f.frame short (withPort p s.ingest.ports[p].parser rest u)
         else withPort p s.ingest.ports[p].parser ({ f with bytes := [], cut := true } :: rest)
           { u with store.frames := s.store.frames.set f.frame.val short f.frame.isLt }
       (128 ≤ (frameOf f.frame s).blocks.length → exec .writeGrant s = .next (cut moved))
       ∧ ((frameOf f.frame s).blocks.length < 128 → s.store.freeList = [] → s.store.reclaim = [] →
           exec .writeGrant s = .next (cut { moved with port.flags := s.port.flags ||| (1#16 <<< 9) }))
       ∧ (∀ u, (frameOf f.frame s).blocks.length < 128 → allocBlock f.frame moved = (u, true) →
           exec .writeGrant s = .next { u with ingest.grant := some p }))

/-- R97, R107: a grant's end writes, in its one step (log 17), the head frame's next bytes, as many as its block has room for,
at byte (payload mod 65,536) and on of the block in place floor(payload / 65,536), and nothing else; they leave the FIFO and
join the payload bytes. R97, R99, R109: a grant that reaches the mark ends the frame: it leaves the FIFO and its record is
READY, DONE if it was DONE, DEADLINE if its item is live, undecided and not VOID, BACKGROUND otherwise; a DONE record that
nothing holds is freed. With no grant in progress nothing changes. -/
def Obligations.GrantEndCases : Prop :=
  (∀ (p : Station) (f : FifoFrame) (rest : List FifoFrame) (s : State), MemoryCanonical s →
     s.ingest.grant = some p → s.ingest.ports[p].fifo = f :: rest →
     (f.bytes = [] ∨ (frameOf f.frame s).payload < 65536 * (frameOf f.frame s).blocks.length) →
     let r := frameOf f.frame s
     let n := min f.bytes.length (65536 * r.blocks.length - r.payload)
     let written : FrameRecord := { r with payload := r.payload + n }
     let base (m : List Host.Cell) (fifo : List FifoFrame) : State :=
       withPort p s.ingest.ports[p].parser fifo { s with ingest.grant := none, store.mem := m }
     ∃ m : List Host.Cell,
       exec .grantEnd s = .next (
         if n = f.bytes.length ∧ f.marked = true then frameEnded f.frame written (base m rest)
         else { base m ({ f with bytes := f.bytes.drop n } :: rest) with
           store.frames := s.store.frames.set f.frame.val written f.frame.isLt })
       ∧ (f.bytes = [] → m = s.store.mem)
       ∧ (∀ b : Block, f.bytes ≠ [] → r.blocks[r.payload / 65536]? = some b →
           let start := 65536 * b.val + r.payload % 65536
           (∀ k, k < n → Memory.read m (start + k) = f.bytes.getD k 0)
           ∧ (∀ a, a < start ∨ start + n ≤ a → Memory.read m a = Memory.read s.store.mem a)))
  ∧ ((∀ s : State, s.ingest.grant = none → exec .grantEnd s = .next s)
     ∧ ∀ (p : Station) (f : FifoFrame) (rest : List FifoFrame) (s : State), s.ingest.grant = some p →
       s.ingest.ports[p].fifo = f :: rest → f.marked = true →
       f.bytes.length ≤ 65536 * (frameOf f.frame s).blocks.length - (frameOf f.frame s).payload →
       let r := frameOf f.frame s
       let cls : FrameClass := if r.cls = .done then .done
         else if ∃ i, liveItem? r.tag r.bank s = some i ∧ i.decision = none ∧ i.phase ≠ .void then .deadline else .background
       ∃ t, exec .grantEnd s = .next t ∧ t.ingest.grant = none ∧ t.ingest.ports[p].fifo = rest
         ∧ (cls = .done → r.k0 = false → r.k1 = false → r.openTx = 0 →
             frameOf f.frame t = FrameRecord.freed ∧ t.store.freeList = s.store.freeList ++ r.blocks)
         ∧ (cls ≠ .done ∨ r.k0 = true ∨ r.k1 = true ∨ r.openTx ≠ 0 →
             frameOf f.frame t = { r with state := .ready, cls := cls, payload := r.payload + f.bytes.length })
         ∧ (∀ id, id ≠ f.frame → frameOf id t = frameOf id s))

/-! ## The uplink (chapter 8) -/

/-- R125: what a copy costs. Widths and heights are rounded up, the payload is cut into segments of 8,192 bytes with the rest
in the last, the wire bytes count every header, the send time is rounded up, and w is below 2^28. -/
def Obligations.CopyCostsAreTheRule : Prop :=
  ∀ (r : FrameRecord) (f rate : Nat), 1 ≤ r.width → r.width ≤ 8192 → 1 ≤ r.height → r.height ≤ 8192 →
    (r.depth = 8 ∨ r.depth = 12) → f ∈ [1, 2, 4] → 1 ≤ rate →
    let b := if r.depth = 12 then 2 else 1
    let p := copyPayload r f
    let k := dataSegments p
    (r.width ≤ f * copyWidth r f ∧ f * (copyWidth r f - 1) < r.width)
      ∧ (r.height ≤ f * copyHeight r f ∧ f * (copyHeight r f - 1) < r.height)
      ∧ p = copyWidth r f * copyHeight r f * b
      ∧ (1 ≤ k ∧ 8192 * (k - 1) < p ∧ p ≤ 8192 * k)
      ∧ wireBytes r f = 96 + p + 32 * k ∧ wireBytes r f < 2 ^ 28
      ∧ (wireBytes r f ≤ rate * sendTime r f rate ∧ rate * (sendTime r f rate - 1) < wireBytes r f)

/-- R129: the output pixel of a block is the rounded average of its input pixels and lies between the smallest and the
largest, for any block that is not empty; the manual's four cases. R107, R130: each byte of a full copy is the frame's byte as
stored, at byte (i mod 65,536) of the block in place floor(i / 65,536), and 0 beyond the stored payload. R129, R130, R139,
12.1: pixel k of a copy at factor 2 or 4 is the average of its block, the blocks counted in rows from the top left corner and
clipped to the frame; a pixel of a region likewise in its rectangle, and at factor 1 the stored bytes of the pixel, 0 where
they lie partly beyond the payload (log 14). A pixel has one byte at depth 8, and at depth 12 the upper 4 bits, then the lower
8. A pixel of the frame reads as its stored bytes, 0 where they lie partly beyond the payload; a place outside the frame,
which only a rectangle clamped to a larger earlier frame reaches, is a free value of the frame's depth (log 30). -/
def Obligations.CopyBytesAreTheRule : Prop :=
  ((∀ (r : FrameRecord) (m : List Host.Cell) (x y w h lo hi : Nat), 1 ≤ w → 1 ≤ h →
     (∀ i j, i < w → j < h → lo ≤ pixelValue r m (x + i) (y + j) ∧ pixelValue r m (x + i) (y + j) ≤ hi) →
     lo ≤ blockPixel r m x y w h ∧ blockPixel r m x y w h ≤ hi
       ∧ blockPixel r m x y w h = (pixelSum r m x y w h + w * h / 2) / (w * h))
   ∧ average 234 4 = 59 ∧ average 15 2 = 8 ∧ average 4095 1 = 4095 ∧ average 16015 16 = 1001)
  ∧ (∀ (r : FrameRecord) (m : List Host.Cell) (i : Nat),
       (r.payload ≤ i → copyByte r m 1 i = 0)
       ∧ (∀ b, i < r.payload → r.blocks[i / 65536]? = some b → copyByte r m 1 i = Memory.read m (65536 * b.val + i % 65536)))
  ∧ (∀ (r : FrameRecord) (m : List Host.Cell), r.depth = 8 ∨ r.depth = 12 →
       let stored (i : Nat) : Byte := ((r.blocks[i / 65536]?).map fun b => Memory.read m (65536 * b.val + i % 65536)).getD 0
       let sends (byte : Nat → Byte) (k value : Nat) : Prop :=
         if r.depth = 12 then 256 * (byte (2 * k)).toNat + (byte (2 * k + 1)).toNat = value else (byte k).toNat = value
       (∀ f k : Nat, f = 2 ∨ f = 4 → k < copyWidth r f * copyHeight r f →
         let x := f * (k % copyWidth r f)
         let y := f * (k / copyWidth r f)
         sends (copyByte r m f) k (blockPixel r m x y (min f (r.width - x)) (min f (r.height - y))))
       ∧ (∀ (q : Rect) (f k : Nat), f = 2 ∨ f = 4 → k < regionWidth q f * regionHeight q f →
         let x := f * (k % regionWidth q f)
         let y := f * (k / regionWidth q f)
         sends (regionByte r m q f) k (blockPixel r m (q.x + x) (q.y + y) (min f (q.w - x)) (min f (q.h - y))))
       ∧ (∀ (q : Rect) (k j b : Nat), b = (if r.depth = 12 then 2 else 1) → j < b → k < q.w * q.h →
         let x := q.x + k % q.w
         let y := q.y + k / q.w
         let first := b * (y * r.width + x)
         x < r.width → y < r.height →
           regionByte r m q 1 (b * k + j) = if first + b ≤ r.payload then stored (first + j) else 0)
       ∧ (∀ (q : Rect) (k : Nat), k < q.w * q.h →
         let x := q.x + k % q.w
         let y := q.y + k / q.w
         ¬ (x < r.width ∧ y < r.height) →
           sends (regionByte r m q 1) k ((Config.unstatedPixel x y).toNat % (if r.depth = 12 then 4096 else 256)))
       ∧ (∀ x y : Nat,
         let k := y * r.width + x
         (x < r.width → y < r.height → pixelValue r m x y =
           if r.depth = 12 then (if 2 * k + 1 < r.payload then (stored (2 * k)).toNat % 16 * 256 + (stored (2 * k + 1)).toNat else 0)
           else (if k < r.payload then (stored k).toNat else 0))
         ∧ (¬ (x < r.width ∧ y < r.height) →
           pixelValue r m x y = (Config.unstatedPixel x y).toNat % (if r.depth = 12 then 4096 else 256))))

/-- R124, R142: while the link is not UP every boundary sends IDLE. Order 0, R132, R135: an ABORT owed goes before all else,
one for a deadline copy first, then a region, then a background copy. A transmission marked for abort by a void sends ABORT
with reason VOID, also where its LAST segment has just ended, and closes without completion at the boundary at which its ABORT
is chosen (log 12). One owed after CLEAR has reason CLEAR and nothing left to close. Orders 1 and 2, R140, R141, R166: with no
ABORT owed the oldest reply goes first, carrying and clearing the pending-fault flag; with no reply, the oldest report. -/
def Obligations.AbortsRepliesReports : Prop :=
  (∀ s : State, noEnding s → s.link.state = .aligning →
     exec .segmentBoundary s = .next { s with uplink.lane := segment .idle (0 :: bytes2 s.store.freeList.length) })
  ∧ (∀ s : State, s.link.state = .up → (∀ y, s.uplink.region = some y → y.last = false) →
       let abort (what : Byte) (frame : FrameId) (number reason : Byte) : Segment :=
         segment .abort ([what] ++ bytes2 frame.val ++ [number, reason])
       (∀ x, s.uplink.deadline = some x → x.abort = true → (∀ a ∈ s.uplink.clearAborts, a.kind ≠ .deadline) →
           (∀ y, s.uplink.background = some y → y.last = true → y.abort = true) →
           exec .segmentBoundary s = .next { closedOn x.frame s with
             uplink := { (closedOn x.frame s).uplink with deadline := none, lane := abort 0 x.frame 0 0 } })
       ∧ (∀ y, s.uplink.background = some y → y.abort = true → s.uplink.clearAborts = [] →
           (∀ x, s.uplink.deadline = some x → x.last = false ∧ x.abort = false) →
           exec .segmentBoundary s = .next { closedOn y.frame s with
             uplink := { (closedOn y.frame s).uplink with background := none, lane := abort 0 y.frame 0 0 } })
       ∧ (∀ (before after : List Abort) (a : Abort), s.uplink.clearAborts = before ++ a :: after → a.reason = .clear →
           (∀ b ∈ before, b.kind ≠ a.kind) →
           (∀ b ∈ before ++ after, (a.kind = .region → b.kind ≠ .deadline) ∧ (a.kind = .background → b.kind = .background)) →
           (∀ x, s.uplink.deadline = some x → x.last = false ∧ x.abort = false) →
           (∀ y, s.uplink.background = some y → y.last = false ∧ y.abort = false) →
           exec .segmentBoundary s = .next { s with
             uplink.clearAborts := before ++ after
             uplink.lane := abort (if a.kind = .region then 1 else 0) a.frame a.number 1 }))
  ∧ (∀ s : State, noEnding s → s.link.state = .up →
       (∀ r rest, s.uplink.replies = r :: rest → exec .segmentBoundary s = .next { s with
         uplink.replies := rest
         uplink.lane := { segment .reply ([r.kind, r.number, r.result.code] ++ r.body) with pendingFault := s.link.pendingFault }
         link.pendingFault := false })
       ∧ (∀ r rest, s.uplink.replies = [] → s.uplink.reports = r :: rest → exec .segmentBoundary s = .next { s with
         uplink.reports := rest, uplink.lane := segment .report r.bytes }))

/-- R124 order 3, R128: an open deadline transmission sends its next data segment: the next min(8,192, p - offset) bytes of
the copy from the offset on, LAST where it carries the copy's last byte. R128, R111, R112, R132, R136, R139: the boundary at
the end of a LAST segment is that of the state in which the transmission has closed. A deadline copy at any factor completes:
the best copy is the finest so far, a full one makes the record DONE, a DONE record that nothing holds is freed, its blocks at
the tail of the free list; a region closes; a background copy completes. -/
def Obligations.DeadlineTransmissionRuns : Prop :=
  (∀ (s : State) (x : DeadlineTx), noEnding s → s.link.state = .up → s.uplink.replies = [] → s.uplink.reports = [] →
     s.uplink.deadline = some x →
     let p := copyPayload (frameOf x.frame s) x.factor
     ∃ g : Segment, exec .segmentBoundary s = .next { s with
         uplink.deadline := some { x with offset := x.offset + min 8192 (p - x.offset), last := g.last }, uplink.lane := g }
       ∧ Carries g .frameData x.frame 0 p x.offset (copyByte (frameOf x.frame s) s.store.mem x.factor))
  ∧ (∀ s : State,
       let deadlineOn := ∀ x, s.uplink.deadline = some x → x.last = false ∨ x.abort = true
       let regionOn := ∀ x, s.uplink.region = some x → x.last = false
       (∀ x, s.uplink.deadline = some x → x.last = true → x.abort = false → x.factor ∈ [1, 2, 4] →
           exec .segmentBoundary s = exec .segmentBoundary (completedOn x.frame x.factor { s with uplink.deadline := none }))
       ∧ (∀ x, deadlineOn → s.uplink.region = some x → x.last = true →
           exec .segmentBoundary s = exec .segmentBoundary (closedOn x.frame { s with uplink.region := none }))
       ∧ (∀ x, deadlineOn → regionOn → s.uplink.background = some x → x.last = true → x.abort = false →
           exec .segmentBoundary s = exec .segmentBoundary (completedOn x.frame 1 { s with uplink.background := none })))

/-- R126, R127, R128: a pick takes, of the pending frames by rising L, then by their items' places in the queue, then by
station, the first with a permitted factor that fits, at the finest such factor, with its SHED flag cleared; every pending
frame before it fitted at none and is shed; no frame behind it is looked at; where nothing is picked every pending frame is
shed. The shed-frames count (7) rises by the frames shed for the first time. FRAME OPEN carries the frame descriptor. A
frame's item is the live item with the frame's tag, also where that item does not reference the frame, the model's choice (log
20). -/
def Obligations.PickTakesTheFirstThatFits : Prop :=
  ∀ s t : State, noEnding s → s.link.state = .up → s.uplink.replies = [] → s.uplink.reports = [] → s.uplink.deadline = none →
    exec .segmentBoundary s = .next t →
    (∀ x, t.uplink.deadline = some x →
      let r : FrameRecord := { frameOf x.frame s with shed := false, openTx := (frameOf x.frame s).openTx + 1 }
      pendingFrame x.frame s ∧ deadlineOf x.frame s = some x.deadline ∧ fits x.frame x.factor x.deadline s
        ∧ (∀ f, f < x.factor → ¬ fits x.frame f x.deadline s)
        ∧ x.slack = x.deadline - sendTime r x.factor s.port.settings.laneRate
        ∧ x.offset = 0 ∧ x.last = false ∧ x.abort = false
        ∧ t.uplink.lane = { segment .frameOpen (descriptorOf x.frame r 0 x.factor (copyWidth r x.factor) (copyHeight r x.factor)
            (copyPayload r x.factor) x.deadline x.slack) with frame := some x.frame }
        ∧ frameOf x.frame t = r
        ∧ (∀ id l, id ≠ x.frame → pendingFrame id s → deadlineOf id s = some l →
            (picksBefore id l x.frame x.deadline s →
              (∀ f, ¬ fits id f l s) ∧ frameOf id t = { frameOf id s with shed := true, shedNote := true })
            ∧ (picksBefore x.frame x.deadline id l s → frameOf id t = frameOf id s)))
    ∧ (t.uplink.deadline = none → ∀ id l, pendingFrame id s → deadlineOf id s = some l →
        (∀ f, ¬ fits id f l s) ∧ (frameOf id t).shed = true ∧ (frameOf id t).shedNote = true)
    ∧ t.port.counts[(7 : Fin 14)].toNat = min 65535 (s.port.counts[(7 : Fin 14)].toNat
        + (List.finRange 1024).countP fun id : Fin 1024 => !(frameOf id s).shedNote && (frameOf id t).shedNote)
    ∧ (∀ k : Fin 14, k ≠ 7 → t.port.counts[k] = s.port.counts[k]) ∧ t.port.flags = s.port.flags

/-- R124 orders 4 to 6, R136, R138, R139, R142: with no reply or report, where no deadline transmission is open and the pick
takes nothing, be it that no frame is pending or that every pending frame is shed (flagged, noted, and counted the first time,
R127), the arbiter goes on at the same boundary: an open region sends its next data segment, and with none open the head of
the region queue is opened, or is an ABORT with reason GONE where its frame has gone; then an open background copy sends its
next data segment, and with none open the head of the background order is opened; then IDLE. An opening segment carries the
frame descriptor, a region's also its rectangle (12.4). -/
def Obligations.RegionsThenBackgroundThenIdle : Prop :=
  ∀ s : State, regionsTurn s →
    let u := allShed s
    (∀ x, s.uplink.region = some x →
      let p := regionPayload (frameOf x.frame u) x.rect x.factor
      ∃ g : Segment, exec .segmentBoundary s = .next { u with
          uplink.region := some { x with offset := x.offset + min 8192 (p - x.offset), last := g.last }, uplink.lane := g }
        ∧ Carries g .regionData x.frame x.number p x.offset (regionByte (frameOf x.frame u) u.store.mem x.rect x.factor))
    ∧ (∀ e rest, s.uplink.region = none → s.uplink.regions = e :: rest →
      let r := frameOf e.frame u
      let held := r.state = .ready ∧ r.tag = e.tag ∧ r.station = e.station
      let opened := openedOn e.frame u
      (held → exec .segmentBoundary s = .next { opened with uplink := { opened.uplink with
          regions := rest
          region := some { number := e.number, frame := e.frame, rect := e.rect, factor := e.factor, offset := 0, last := false }
          lane := { segment .regionOpen (descriptorOf e.frame r 2 e.factor (regionWidth e.rect e.factor) (regionHeight e.rect e.factor)
              (regionPayload r e.rect e.factor) 0 0 ++ bytes2 e.rect.x ++ bytes2 e.rect.y ++ bytes2 e.rect.w ++ bytes2 e.rect.h)
            with frame := some e.frame, number := e.number } } })
      ∧ (¬ held → exec .segmentBoundary s = .next { u with
          uplink.regions := rest, uplink.lane := segment .abort ([1] ++ bytes2 e.frame.val ++ [e.number, 2]) }))
    ∧ (∀ x, s.uplink.region = none → s.uplink.regions = [] → s.uplink.background = some x →
      let p := copyPayload (frameOf x.frame u) 1
      ∃ g : Segment, exec .segmentBoundary s = .next { u with
          uplink.background := some { x with offset := x.offset + min 8192 (p - x.offset), last := g.last }, uplink.lane := g }
        ∧ Carries g .frameData x.frame 0 p x.offset (copyByte (frameOf x.frame u) u.store.mem 1))
    ∧ (∀ id rest, s.uplink.region = none → s.uplink.regions = [] → s.uplink.background = none → s.uplink.bgOrder = id :: rest →
      let r := frameOf id u
      let opened := openedOn id u
      exec .segmentBoundary s = .next { opened with uplink := { opened.uplink with
        background := some { frame := id, offset := 0, last := false, abort := false }
        lane := { segment .frameOpen (descriptorOf id r 1 1 r.width r.height (copyPayload r 1) 0 0) with frame := some id } } })
    ∧ (s.uplink.region = none → s.uplink.regions = [] → s.uplink.background = none → s.uplink.bgOrder = [] →
      exec .segmentBoundary s = .next { u with uplink.lane := segment .idle (1 :: bytes2 u.store.freeList.length) })

/-- R137: FETCH REGION with the link UP, the first case that applies; the rectangle is clamped to the frame. -/
def Obligations.FetchRegionCases : Prop :=
  ∀ (number : Byte) (frame tag x y w h : Word16) (factor : Byte) (s : State), s.link.state = .up → noPartial s →
    let answer (result : Result) (body : List Byte) (u : State) : Prop :=
      exec (.fetchRegion number frame tag x y w h factor) s =
        .next (replied { kind := 4, number := number, result := result, body := body } u)
    (1023 < frame.toNat ∨ 1023 < tag.toNat ∨ factor ∉ [(1 : Byte), 2, 4] → answer .invalid [] s)
    ∧ (∀ id : FrameId, id.val = frame.toNat → tag.toNat ≤ 1023 → factor ∈ [(1 : Byte), 2, 4] →
        let r := frameOf id s
        let w' := if r.width ≤ x.toNat then 0 else min w.toNat (r.width - x.toNat)
        let h' := if r.height ≤ y.toNat then 0 else min h.toNat (r.height - y.toNat)
        let entry : RegionEntry :=
          { number := number, frame := id, tag := r.tag, station := r.station, rect := { x := x.toNat, y := y.toNat, w := w', h := h' },
            factor := factor.toNat }
        (r.state = .free ∨ r.tag.val ≠ tag.toNat → answer .gone [] s)
        ∧ (r.tag.val = tag.toNat → r.state = .filling → answer .noFrame [] s)
        ∧ (r.tag.val = tag.toNat → r.state = .ready → w' = 0 ∨ h' = 0 → answer .empty [] s)
        ∧ (r.tag.val = tag.toNat → r.state = .ready → 0 < w' → 0 < h' → 16 ≤ s.uplink.regions.length → answer .full [] s)
        ∧ (r.tag.val = tag.toNat → r.state = .ready → 0 < w' → 0 < h' → s.uplink.regions.length < 16 →
            answer .ok (bytes2 x.toNat ++ bytes2 y.toNat ++ bytes2 w' ++ bytes2 h')
              { s with uplink.regions := s.uplink.regions ++ [entry] }))

/-- R113, R115, R112: KEEP and RELEASE naming a frame, from either master, and the marks, the freeing and the reclaim list
after them. The body gives state, class, best copy and marks as they stand after the request, those of a FREE record where it
is freed, with the bank and station of the frame named, the model's choice (log 31). R114, 12.8: KEEP and RELEASE naming an
item by tag or depth, from either master: the mark of each record that the item references is set or cleared, in ascending
order of station, with what follows from it; the body names the item, how many records there are, and each with its station
and whether its mark changed. Codes: target frame 0, tag 1, depth 2, another INVALID; line port requests KEEP 12, RELEASE 13;
OK 0, INVALID 3, NO_ITEM 4, NO_FRAME 13. No partial block waits in the receiver (for one that does see the blocks of the
link). -/
def Obligations.KeepAndReleaseCases : Prop :=
  (∀ (office keep : Bool) (number : Byte) (frame tag : Word16) (s : State),
     (if office then s.link.state = .up ∧ noPartial s else busy s = false) →
     let c : Instr := if keep then .keep (if office then .office number else .lineController) 0 frame tag
       else .release (if office then .office number else .lineController) 0 frame tag
     let answer (result : Result) (body : List Byte) (u : State) : Prop := exec c s = .next (
       if office then replied { kind := if keep then 2 else 3, number := number, result := result, body := body } u
       else taken 7 ([if keep then 12 else 13, result.code] ++ body) u)
     (1023 < frame.toNat ∨ 1023 < tag.toNat → answer .invalid [] s)
     ∧ (∀ id : FrameId, id.val = frame.toNat → tag.toNat ≤ 1023 →
         let r := frameOf id s
         let marked : FrameRecord := if office then { r with k0 := keep } else { r with k1 := keep }
         let after := settled marked
         (r.state = .free ∨ r.tag.val ≠ tag.toNat → answer .noFrame [] s)
         ∧ (r.state ≠ .free → r.tag.val = tag.toNat → answer .ok ([0] ++ bytes2 id.val
             ++ [if marked = r then 0 else 1, r.bank.code, BitVec.ofNat 8 r.station.val, after.state.code, after.cls.code,
                 after.best.code, if after.k0 then 1 else 0, if after.k1 then 1 else 0]) (withFrame id marked s))))
  ∧ (∀ (office keep : Bool) (number target : Byte) (n tag : Word16) (s : State),
       (if office then s.link.state = .up ∧ noPartial s else busy s = false) →
       let c : Instr := if keep then .keep (if office then .office number else .lineController) target n tag
         else .release (if office then .office number else .lineController) target n tag
       let answer (result : Result) (body : List Byte) (u : State) : Prop := exec c s = .next (
         if office then replied { kind := if keep then 2 else 3, number := number, result := result, body := body } u
         else taken 7 ([if keep then 12 else 13, result.code] ++ body) u)
       let marked (r : FrameRecord) : FrameRecord := if office then { r with k0 := keep } else { r with k1 := keep }
       let named := target = 1 ∨ target = 2
       (3 ≤ target.toNat ∨ (named ∧ address (target - 1) n s = .outOfRange) → answer .invalid [] s)
       ∧ (named → address (target - 1) n s = .noItem → answer .noItem [] s)
       ∧ (∀ d i, named → address (target - 1) n s = .found d i →
           let records : List (Fin 8 × FrameId) := (List.finRange 8).filterMap fun st => (references i st s).map fun id => (st, id)
           answer .ok ([target] ++ bytes2 i.tag.val ++ [BitVec.ofNat 8 records.length]
               ++ records.flatMap fun x => [BitVec.ofNat 8 x.1.val] ++ bytes2 x.2.val
                 ++ [if marked (frameOf x.2 s) = frameOf x.2 s then 0 else 1])
             (records.foldl (fun u x => withFrame x.2 (marked (frameOf x.2 u)) u) s)))

/-! ## Gates and lamp (chapter 9) -/

/-- R147 to R149: the Gate Unit's own examination of a newly placed fire of either gate: untouched before its start; missed,
whatever the output, where its end is reached; started by the output state otherwise; a tag with no SCHEDULED fire changes
nothing, the model's choice (log 9); the head may not retire (flag bit FIRE_MISSED 6, count 10). R148, R149: a count's
examination handles the starts before the ends. Every SCHEDULED fire whose start is reached starts: HELD in RECOVERY, its item
as it is; otherwise ON with the output, its item FIRING, FIRED where it is the first in list order on a gate that was IDLE,
MERGED otherwise. R150, R156: then each ON fire whose end is reached leaves the list and its item is PASSED with its gate
outcome kept; the output goes off when no ON fire is left, to RECOVERY where the gate's gap is above 0 and to IDLE otherwise;
the other gate is as before. -/
def Obligations.GateExaminations : Prop :=
  (∀ (tag : Tag) (s : State), headStays s →
     let phase (p : Phase) (o : GateOutcome) : List Item :=
       s.queue.items.map fun j => if j.tag = tag then { j with phase := p, gateOutcome := o } else j
     let examined : Instr := .gateExaminationAfterPlacing tag
     ((∀ g : Gate, ∀ f ∈ (gateOf g s).fires, ¬ (f.tag = tag ∧ f.status = .scheduled)) → exec examined s = .next s)
     ∧ ∀ (g : Gate) (f : Fire), (gateOf g s).fires.find? (fun f => f.tag == tag && f.status == .scheduled) = some f →
       (g = .rework → ∀ e ∈ s.gates.reject.fires, ¬ (e.tag = tag ∧ e.status = .scheduled)) →
       let x := gateOf g s
       let status (y : FireStatus) : List Fire := x.fires.map fun f => if f.tag = tag then { f with status := y } else f
       (¬ reached s.pos.position f.start → exec examined s = .next s)
       ∧ (reached s.pos.position f.start → reached s.pos.position f.stop →
           exec examined s = .next (noted 6 10 (withGate g { x with fires := x.fires.filter fun f => f.tag != tag }
             { s with queue.items := phase .passed .missed })))
       ∧ (reached s.pos.position f.start → ¬ reached s.pos.position f.stop →
           (x.output = .idle → exec examined s = .next (withGate g { output := .on, fires := status .on }
             { s with queue.items := phase .firing .fired }))
           ∧ (x.output = .on → exec examined s = .next (withGate g { x with fires := status .on }
             { s with queue.items := phase .firing .merged }))
           ∧ (∀ e, x.output = .recovery e → exec examined s = .next (withGate g { x with fires := status .held } s))))
  ∧ (∀ (g : Gate) (s : State), ((gateOf g s).fires.map Fire.tag).Nodup →
       let x := gateOf g s
       let starts (f : Fire) : Bool := decide (f.status = .scheduled ∧ 0 ≤ (s.pos.position - f.start).toInt)
       let started := x.fires.filter starts
       let status (y : FireStatus) : List Fire := x.fires.map fun f => if starts f then { f with status := y } else f
       (∀ e, x.output = .recovery e → examineGate g s = examineGate g (withGate g { x with fires := status .held } s))
       ∧ (x.output = .idle ∨ x.output = .on → started ≠ [] →
           examineGate g s = examineGate g (withGate g { output := .on, fires := status .on } { s with
             queue.items := s.queue.items.map fun j =>
               if started.any fun f => f.tag == j.tag then
                 { j with phase := .firing
                          gateOutcome := if x.output = .idle ∧ started.head?.map Fire.tag = some j.tag then .fired else .merged }
               else j })))
  ∧ (∀ (g : Gate) (s : State), (∀ f ∈ (gateOf g s).fires, ¬ (f.status = .scheduled ∧ reached s.pos.position f.start)) →
       let ends (f : Fire) : Bool := decide (f.status = .on ∧ 0 ≤ (s.pos.position - f.stop).toInt)
       let left := (gateOf g s).fires.filter fun f => !ends f
       let gap := match g with | .reject => s.port.settings.rejectGap | .rework => s.port.settings.reworkGap
       let t := examineGate g s
       t = { s with gates := t.gates, queue.items := t.queue.items }
         ∧ gateOf g t = { fires := left
                          output := if (gateOf g s).output = .on ∧ ∀ f ∈ left, f.status ≠ .on then
                              (if gap = 0 then .idle else .recovery (s.pos.time + BitVec.ofNat 32 gap))
                            else (gateOf g s).output }
         ∧ (∀ h : Gate, h ≠ g → gateOf h t = gateOf h s) ∧ t.gates.lamp = s.gates.lamp
         ∧ t.queue.items = s.queue.items.map fun j =>
             if (gateOf g s).fires.any fun f => ends f && f.tag == j.tag then { j with phase := .passed } else j)

/-- R151: at the recovery expiry each HELD fire starts late or is missed, in list order; the output goes ON where one started
and IDLE otherwise. Counts: late fires 9, missed fires 10; flags: LATE_FIRE 7, FIRE_MISSED 6. Before the expiry, or outside
RECOVERY, nothing changes (log 2). -/
def Obligations.RecoveryExpiryReleasesTheHeld : Prop :=
  ∀ (g : Gate) (s : State),
    ((∀ x, (gateOf g s).output = .recovery x → ¬ reached s.pos.time x) → exec (.recoveryExpiry g) s = .next s)
    ∧ ∀ x, (gateOf g s).output = .recovery x → reached s.pos.time x → ((gateOf g s).fires.map Fire.tag).Nodup →
      (∀ j ∈ s.queue.items, ¬ reached s.pos.position (j.entry + (planOf j.bank s).exit.setWidth 32)) →
      let held := (gateOf g s).fires.filter fun f => decide (f.status = .held)
      let late (f : Fire) : Bool := decide (f.status = .held ∧ (s.pos.position - f.stop).toInt < 0)
      let missed (f : Fire) : Bool := decide (f.status = .held ∧ 0 ≤ (s.pos.position - f.stop).toInt)
      ∃ t, exec (.recoveryExpiry g) s = .next t
        ∧ t = { s with gates := t.gates, queue.items := t.queue.items, port.flags := t.port.flags, port.counts := t.port.counts }
        ∧ gateOf g t = { output := if held.any late then .on else .idle
                         fires := ((gateOf g s).fires.filter fun f => !missed f).map fun f =>
                           if late f then { f with status := .on } else f }
        ∧ (∀ h : Gate, h ≠ g → gateOf h t = gateOf h s) ∧ t.gates.lamp = s.gates.lamp
        ∧ t.port.counts[(9 : Fin 14)].toNat = min 65535 (s.port.counts[(9 : Fin 14)].toNat + held.countP late)
        ∧ t.port.counts[(10 : Fin 14)].toNat = min 65535 (s.port.counts[(10 : Fin 14)].toNat + held.countP missed)
        ∧ (∀ k : Fin 14, k ≠ 9 → k ≠ 10 → t.port.counts[k] = s.port.counts[k])
        ∧ t.port.flags = s.port.flags ||| (if held.any late then 1#16 <<< 7 else 0)
            ||| (if held.any missed then 1#16 <<< 6 else 0)
        ∧ t.queue.items = s.queue.items.map fun j =>
            if (held.filter late).any fun f => f.tag == j.tag then { j with phase := .firing, gateOutcome := .lateFire }
            else if (held.filter missed).any fun f => f.tag == j.tag then { j with phase := .passed, gateOutcome := .missed }
            else j

/-- R34, R153: a HIGH sample after a LOW one raises HALT_INPUT (bit 0); under HOLD the gates are as before; under CUT a gate
that is ON goes IDLE and loses its ON fires, each item PASSED with CUT, counted (11), and a gate that is not ON is as before.
A HIGH sample after a HIGH one changes nothing, and a LOW sample changes the level alone: the edge commands carry samples, the
model's choice (log 29). -/
def Obligations.HaltInputCutsTheGates : Prop :=
  ∀ s : State,
    exec .haltInputFallingEdge s = .next { s with pos.halt := false }
    ∧ (s.pos.halt = true → exec .haltInputRisingEdge s = .next s)
    ∧ (s.pos.halt = false → s.port.settings.haltMode = .hold →
        exec .haltInputRisingEdge s = .next { s with pos.halt := true, port.flags := s.port.flags ||| 1 })
    ∧ (s.pos.halt = false → s.port.settings.haltMode = .cut →
        let cut (g : Gate) : List Fire :=
          if (gateOf g s).output = .on then (gateOf g s).fires.filter fun f => decide (f.status = .on) else []
        ∃ t, exec .haltInputRisingEdge s = .next t ∧ t.pos = { s.pos with halt := true } ∧ t.port.flags.getLsbD 0 = true
          ∧ (∀ g : Gate, (gateOf g s).output = .on →
              gateOf g t = { output := .idle, fires := (gateOf g s).fires.filter fun f => decide (f.status ≠ .on) })
          ∧ (∀ g : Gate, (gateOf g s).output ≠ .on → gateOf g t = gateOf g s)
          ∧ (∀ g : Gate, ∀ f ∈ cut g, ∀ j ∈ t.queue.items, j.tag = f.tag → j.phase = .passed ∧ j.gateOutcome = .cut)
          ∧ t.port.counts[(11 : Fin 14)].toNat =
              min 65535 (s.port.counts[(11 : Fin 14)].toNat + (cut .reject).length + (cut .rework).length)
          ∧ (t.port.flags.getLsbD 5 = true ↔ s.port.flags.getLsbD 5 = true ∨ cut .reject ≠ [] ∨ cut .rework ≠ []))

/-- R157: the lamp state is the table's value for mode and link state after every command that finds it so, and on entry to
SLOW or FAST the output turns on and a blink period begins; in SLOW and FAST the output changes at the toggle time, 500 ms or
125 ms after the one before. The model's choice in it: the first toggle is half a period after the entry, each later one half
a period after the toggle time before it (log 21); a toggle in OFF and ON, or before its time, changes nothing (log 2). -/
def Obligations.LampFollowsModeAndLink : Prop :=
  (∀ (c : Instr) (s t : State), s.gates.lamp.state = tableR157 s.port.mode s.link.state → exec c s = .next t →
     t.gates.lamp.state = tableR157 t.port.mode t.link.state
       ∧ (t.gates.lamp.state ≠ s.gates.lamp.state → t.gates.lamp.output = (t.gates.lamp.state != .off)
           ∧ (t.gates.lamp.state = .slow → t.gates.lamp.toggleAt = t.pos.time + 500000)
           ∧ (t.gates.lamp.state = .fast → t.gates.lamp.toggleAt = t.pos.time + 125000)))
  ∧ (∀ s : State,
       let toggled (half : Nat) : State := { s with
         gates.lamp.output := !s.gates.lamp.output, gates.lamp.toggleAt := s.gates.lamp.toggleAt + BitVec.ofNat 32 half }
       (s.gates.lamp.state = .slow → reached s.pos.time s.gates.lamp.toggleAt → exec .lampBlinkToggle s = .next (toggled 500000))
       ∧ (s.gates.lamp.state = .fast → reached s.pos.time s.gates.lamp.toggleAt → exec .lampBlinkToggle s = .next (toggled 125000))
       ∧ (s.gates.lamp.state = .off ∨ s.gates.lamp.state = .on ∨ ¬ reached s.pos.time s.gates.lamp.toggleAt →
           exec .lampBlinkToggle s = .next s))

/-! ## The fibre link (chapter 10) -/

/-- R160, R161, R162, R166: a bad block is counted (13) and sets the pending-fault flag; in ALIGNING it sets the run to 0. A
block start takes HUNT to COLLECT; where a partial block waits, the start of the next is first a bad block. A data byte is
ignored in HUNT and collected in COLLECT, and with the 64th the block has arrived (BAD_BLOCK carries single characters by log
8). R162, R167: no block is acted on in ALIGNING; a good block adds to the run, and the fourth in a row makes the link UP,
raises LINK_UP (bit 3) and starts the loss timer, whatever its request. R163, R167, R170: in UP an IDLE block restarts the
loss timer and gets no reply; a kind that names none of the seven is answered INVALID with an empty body; QUERY STATUS is
answered by the link, its body a snapshot that clears nothing. -/
def Obligations.BlocksAreJudgedByTheLink : Prop :=
  (∀ s : State,
     (noPartial s → exec (.badBlock .checkFails) s = .next (badBlockSeen .hunt s)
       ∧ exec (.badBlock .cutShort) s = .next (badBlockSeen (.collect []) s))
     ∧ (∀ (b : Byte) (l : List Byte) (c : Instr), s.link.receiver = .collect (b :: l) →
         isBlock c = true ∨ c = .badBlock .checkFails ∨ c = .badBlock .cutShort → exec c s = exec c (badBlockSeen (.collect []) s))
     ∧ (s.link.receiver = .hunt → exec (.badBlock .blockStart) s = .next { s with link.receiver := .collect [] }
         ∧ ∀ b, exec (.badBlock (.dataByte b)) s = .next s)
     ∧ (∀ l, s.link.receiver = .collect l →
         exec (.badBlock .blockStart) s = .next (badBlockSeen (.collect []) s)
         ∧ ∀ b, (l.length < 63 → exec (.badBlock (.dataByte b)) s = .next { s with link.receiver := .collect (l ++ [b]) })
           ∧ (l.length = 63 → exec (.badBlock (.dataByte b)) s = exec (blockCommand (l ++ [b])) { s with link.receiver := .collect [] })))
  ∧ (∀ (c : Instr) (s : State), isBlock c = true → c.wellFormed = true → noPartial s → s.link.state = .aligning →
       (s.link.goodRun < 3 → exec c s = .next { s with link.receiver := .hunt, link.goodRun := s.link.goodRun + 1 })
       ∧ (s.link.goodRun = 3 → ∃ t, exec c s = .next t
           ∧ t = { s with
             link := { s.link with receiver := .hunt, state := .up, goodRun := 4,
                                   lossTimer := some (s.pos.time + BitVec.ofNat 32 s.port.settings.lossTimeout) }
             port.flags := s.port.flags ||| (1#16 <<< 3)
             gates.lamp := t.gates.lamp }
           ∧ t.gates.lamp.state = tableR157 s.port.mode .up))
  ∧ (∀ (number kind : Byte) (s : State), s.link.state = .up → noPartial s →
       let status : List Byte :=
         [s.port.mode.code, 1] ++ bytes2 s.queue.items.length ++ bytes2 s.store.freeList.length
           ++ [if s.plans.active = .a then 0 else 1, if s.plans.pendingSwap then 1 else 0] ++ bytes2 s.pos.speed
           ++ bytes4 s.pos.position.toNat ++ bytes4 s.pos.time.toNat ++ [if s.pos.halt then 1 else 0]
           ++ bytes2 (s.port.counts[(13 : Fin 14)]).toNat ++ bytes2 (s.port.counts[(12 : Fin 14)]).toNat
       exec (.idleBlock number) s = .next (heard s)
       ∧ (kindUnknown kind = true → exec (.unknownRequestKind kind number) s =
           .next (replied { kind := kind, number := number, result := .invalid, body := [] } s))
       ∧ exec (.queryStatus number) s = .next (replied { kind := 6, number := number, result := .ok, body := status } s))

/-- R164, R134: at the loss timer's expiry in UP the link is ALIGNING, LINK_DOWN (bit 4) is raised, every open transmission is
closed, deadline, region, then background, each closing reported to the Frame Store, which frees a DONE record that nothing
else holds; owed ABORTs, regions and replies are dropped, the report queue stays, and so does the background order but for a
frame that is freed; otherwise nothing changes (log 2). -/
def Obligations.LinkLossClosesTheTransmissions : Prop :=
  ∀ s : State,
    let due := s.link.state = .up ∧ ∃ x, s.link.lossTimer = some x ∧ reached s.pos.time x
    let close (frame : Option FrameId) (u : State) : State := match frame with | some id => closedOn id u | none => u
    let u := close (s.uplink.background.map BackgroundTx.frame) (close (s.uplink.region.map RegionTx.frame)
      (close (s.uplink.deadline.map DeadlineTx.frame) s))
    (¬ due → exec .lossTimerExpiry s = .next s)
    ∧ (due → ∃ t, exec .lossTimerExpiry s = .next t
        ∧ t = { s with
          store := u.store
          uplink := { s.uplink with deadline := none, region := none, background := none, clearAborts := [], replies := [],
                                    regions := [], bgOrder := u.uplink.bgOrder }
          link := { s.link with state := .aligning, goodRun := 0, lossTimer := none }
          port.flags := s.port.flags ||| (1#16 <<< 4)
          gates.lamp := t.gates.lamp }
        ∧ t.gates.lamp.state = tableR157 s.port.mode .aligning)

/-! ## The line port (chapter 11) -/

/-- R176: a write that ends while BUSY, with any of the nineteen requests, is not taken and sets REFUSED; every byte sent back
is 0. R177, 12.7: a request taken is answered in the same step, and the answer held begins with its code and a result code;
the port is BUSY and not READY. Fewer than two bytes take nothing; a code that names no request, a payload that differs from
the length byte, or a length byte that differs from the layout is answered INVALID at once with no effect on any block. R178:
when the response is placed BUSY clears and READY is set; RESPONSE_PLACED with no request in hand changes nothing, the model's
choice (log 2). R175: chip select begins a transaction; every byte of a WRITE REQUEST joins the request buffer and changes
nothing else, 0 being sent; at the release of chip select the request is judged, so that its events one by one lead where the
whole transaction leads. With no transaction in progress a byte and a release change nothing, nor does a chip select in one,
the model's choice (log 32). -/
def Obligations.RequestsAreTakenAndAnswered : Prop :=
  (∀ (r : LineRequest) (s : State), busy s = true →
     exec r.command s = .next { s with
       port.refused := true, port.bus := .idle, port.spiOut := List.replicate (2 + r.payload.length) 0 })
  ∧ (∀ (r : LineRequest) (s : State), busy s = false → ∃ (t : State) (result : Result) (body : List Byte),
       exec r.command s = .next t ∧ t.port.buffer = .busy (r.code :: result.code :: body) ∧ t.port.refused = s.port.refused
         ∧ (statusByte t).getLsbD 6 = true ∧ (statusByte t).getLsbD 7 = false)
  ∧ (∀ (bytes : List Byte) (s : State), bytes.head? ≠ some 0 →
       (bytes.length < 2 → exec (.writeRequest (.transaction bytes)) s =
         .next { s with port.bus := .idle, port.spiOut := List.replicate bytes.length 0 })
       ∧ (∀ code len payload, bytes = code :: len :: payload →
           (code.toNat = 0 ∨ 19 < code.toNat ∨ payload.length ≠ len.toNat ∨ requestLengthOk code.toNat len.toNat = false) →
           (busy s = false → exec (.writeRequest (.transaction bytes)) s = .next (taken bytes.length [code, 3] s))
           ∧ (busy s = true → exec (.writeRequest (.transaction bytes)) s =
               .next { s with port.refused := true, port.bus := .idle, port.spiOut := List.replicate bytes.length 0 })))
  ∧ (∀ s : State,
       (∀ a, s.port.buffer = .busy a → exec .responsePlaced s = .next { s with port.buffer := .ready a })
       ∧ (busy s = false → exec .responsePlaced s = .next s))
  ∧ (∀ s : State,
       let event (e : BusArrival) : Host.Outcome State Fault Refusal := exec (.writeRequest e) s
       (s.port.bus = .idle → event .chipSelect = .next { s with port.bus := .begun, port.spiOut := [] }
         ∧ event .release = .next s ∧ ∀ b, event (.busByte b) = .next s)
       ∧ (s.port.bus ≠ .idle → event .chipSelect = .next s)
       ∧ (∀ b, s.port.bus = .begun → b ≠ 0 →
           event (.busByte b) = .next { s with port.bus := .writing [b], port.spiOut := s.port.spiOut ++ [0] })
       ∧ (∀ l, s.port.bus = .writing l → event .release = event (.transaction l)
           ∧ ∀ b, event (.busByte b) = .next { s with port.bus := .writing (l ++ [b]), port.spiOut := s.port.spiOut ++ [0] })
       ∧ (∀ (bytes : List Byte) (t : State), s.port.bus = .idle → bytes.head? ≠ some 0 →
           (Leads ([.writeRequest .chipSelect] ++ bytes.map (fun b => .writeRequest (.busByte b)) ++ [.writeRequest .release]) s t
             ↔ event (.transaction bytes) = .next t)))

/-- R175, R178: READ RESPONSE sends 0, the status byte, and then zeros while BUSY, or the length and the response held, a
length of 0 where none is; it changes REFUSED alone, which a read of two bytes or more clears (log 18), with the model's own
record of what was sent (log 6). The status byte shows the five flags in bits 7 to 3, bits 2 to 0 zero; READY and BUSY are
never both set. R175, byte by byte: a first byte of 0 makes the transaction a READ RESPONSE, the status byte follows, then
what it settled, zeros or the response held (log 32); a read may stop anywhere, and its events one by one lead where the whole
transaction leads. What is sent behind the response is a free value (log 6). -/
def Obligations.ReadResponseSendsWhatIsHeld : Prop :=
  (∀ (n : Nat) (s : State), ∃ t, exec (.readResponse n) s = .next t
     ∧ t = { s with port.bus := .idle, port.spiOut := t.port.spiOut, port.refused := t.port.refused, freeCtr := t.freeCtr }
     ∧ t.port.refused = (if n < 2 then s.port.refused else false) ∧ t.port.spiOut.length = n
     ∧ (0 < n → t.port.spiOut[0]? = some 0) ∧ (1 < n → t.port.spiOut[1]? = some (statusByte s))
     ∧ (∀ a k, s.port.buffer = .busy a → 2 ≤ k → k < n → t.port.spiOut[k]? = some 0)
     ∧ (s.port.buffer = .vacant → 2 < n → t.port.spiOut[2]? = some 0)
     ∧ (∀ r k, s.port.buffer = .ready r → k < n → (k = 2 → t.port.spiOut[k]? = some (BitVec.ofNat 8 r.length))
         ∧ (∀ b, 3 ≤ k → r[k - 3]? = some b → t.port.spiOut[k]? = some b)))
  ∧ (∀ s : State,
       ((statusByte s).getLsbD 7 = true ↔ ∃ r, s.port.buffer = .ready r) ∧ ((statusByte s).getLsbD 6 = true ↔ ∃ a, s.port.buffer = .busy a)
         ∧ (statusByte s).getLsbD 5 = s.port.refused ∧ (statusByte s).getLsbD 4 = s.port.resetSeen
         ∧ ((statusByte s).getLsbD 3 = true ↔ ∃ k : Fin 16, s.port.flags.getLsbD k = true ∧ s.port.enables.getLsbD k = true)
         ∧ (statusByte s).extractLsb' 0 3 = 0 ∧ ¬ ((statusByte s).getLsbD 7 = true ∧ (statusByte s).getLsbD 6 = true))
  ∧ (∀ (b : Byte) (s : State),
       let event (e : BusArrival) : Host.Outcome State Fault Refusal := exec (.writeRequest e) s
       let sends (x : Byte) (q : BusState) (u : State) : State := { u with port.bus := q, port.spiOut := s.port.spiOut ++ [x] }
       let held : List Byte := match s.port.buffer with
         | .vacant => [0]
         | .busy _ => []
         | .ready r => BitVec.ofNat 8 r.length :: r
       (s.port.bus = .begun → event (.busByte 0) = .next (sends 0 .reading s))
       ∧ (s.port.bus = .reading → event (.busByte b) =
           .next (sends (statusByte s) (.sending (busy s) held) { s with port.refused := false }))
       ∧ (∀ l, s.port.bus = .sending true l → event (.busByte b) = .next (sends 0 (.sending true l) s))
       ∧ (∀ x l, s.port.bus = .sending false (x :: l) → event (.busByte b) = .next (sends x (.sending false l) s))
       ∧ (s.port.bus = .sending false [] → ∃ t x, event (.busByte b) = .next t
           ∧ t = sends x (.sending false []) { s with freeCtr := t.freeCtr })
       ∧ ((∀ l, s.port.bus ≠ .writing l) → event .release = .next { s with port.bus := .idle })
       ∧ (∀ (l : List Byte) (t : State), s.port.bus = .idle →
           (Leads ([.writeRequest .chipSelect] ++ (0 :: l).map (fun b => .writeRequest (.busByte b)) ++ [.writeRequest .release]) s t
             ↔ exec (.readResponse (l.length + 1)) s = .next t)))

/-- R180, R181, R82, R49: SET MODE, the first case that applies, with the mode before and after in every response; a change of
mode drops the queued triggers on leaving RUN, takes a pending swap on entering HALT and leaves all trains and timeouts.
Leaving RUN changes the item queue in this alone: each station that a removed trigger was for becomes SKIPPED, and an ENTERED
record whose last unresolved station it was goes to COMPLETE (R11); nothing is changed but queue, triggers, plans, port and
lamp. Codes: request 2; OK 0, INVALID 3, NOT_EMPTY 9, PLAN_INVALID 10. -/
def Obligations.SetModeCases : Prop :=
  ∀ (b : Byte) (m : Mode) (s : State), busy s = false →
    let before := s.port.mode.code
    let valid := (bankOf s.plans.active s).valid
    (3 ≤ b.toNat → exec (.setMode b) s = .next (taken 3 [2, 3, before, before] s))
    ∧ (b = before → exec (.setMode b) s = .next (taken 3 [2, 0, before, before] s))
    ∧ (m ≠ s.port.mode → m = .halt → s.queue.items ≠ [] → exec (.setMode 2) s = .next (taken 3 [2, 9, before, before] s))
    ∧ (m ≠ s.port.mode → s.port.mode = .halt → valid = false → exec (.setMode m.code) s = .next (taken 3 [2, 10, before, before] s))
    ∧ (m ≠ s.port.mode → (m = .halt → s.queue.items = []) → (s.port.mode = .halt → valid = true) →
        ∃ t, exec (.setMode m.code) s = .next t
          ∧ t = { s with queue := t.queue, trig := t.trig, plans := t.plans, port := t.port, gates.lamp := t.gates.lamp }
          ∧ t.port = { s.port with bus := .idle, spiOut := [0, 0, 0], buffer := .busy [2, 0, before, m.code], mode := m,
                                   flags := t.port.flags }
          ∧ ((s.queue.items.map Item.tag).Nodup → m ≠ .run →
              t.queue = { s.queue with items := s.queue.items.map (withoutQueued s) })
          ∧ (m = .run → t.trig = s.trig ∧ t.queue = s.queue)
          ∧ (m ≠ .run → ∀ st : Station, t.trig[st] = { s.trig[st] with queue := [] }
              ∧ ∀ e ∈ s.trig[st].queue, ∀ i ∈ t.queue.items, i.tag = e.tag → i.bank = e.bank → i.stations[st] = .skipped)
          ∧ (m ≠ .halt ∨ s.plans.pendingSwap = false → t.plans = s.plans ∧ t.port.flags = s.port.flags)
          ∧ (m = .halt → s.plans.pendingSwap = true → t.plans.active = s.plans.active.other ∧ t.plans.pendingSwap = false
              ∧ t.port.flags = s.port.flags ||| (1#16 <<< 1)))

/-- R182, R192: CONFIGURE outside HALT is WRONG_MODE; an item that names no setting or a value outside its range makes it
INVALID, with the place of the first such item, and nothing changes; otherwise each setting takes the last value that names it
and the others stay, and the response carries all nineteen (code 3). READ CONFIGURATION answers with them in every mode and
changes nothing (code 4). -/
def Obligations.ConfigureIsAllOrNothing : Prop :=
  (∀ (items : List SettingItem) (s : State), busy s = false → 1 ≤ items.length → items.length ≤ 19 →
     let n := 2 + 4 * items.length
     let ok (i : SettingItem) : Prop := settingOk i.number.toNat i.value.toNat
     (s.port.mode ≠ .halt → exec (.configure items) s = .next (taken n [3, 8] s))
     ∧ (s.port.mode = .halt →
         (∀ before i after, items = before ++ i :: after → (∀ j ∈ before, ok j) → ¬ ok i →
           exec (.configure items) s = .next (taken n [3, 3, BitVec.ofNat 8 before.length] s))
         ∧ ((∀ i ∈ items, ok i) → ∃ c : Settings,
           exec (.configure items) s = .next (taken n ([3, 0] ++ c.values.flatMap bytes3) { s with
               port.settings := c
               pos.residue := if c.prescaler = s.port.settings.prescaler ∧ c.polarity = s.port.settings.polarity then s.pos.residue
                 else 0 })
             ∧ ∀ (k : Nat) (old : Nat), s.port.settings.values[k]? = some old → c.values[k]? = some
                 (((items.reverse.find? fun i => i.number.toNat == k).map fun i => i.value.toNat).getD old))))
  ∧ (∀ s : State, busy s = false → exec .readConfiguration s = .next (taken 2 ([4, 0] ++ s.port.settings.values.flatMap bytes3) s)
       ∧ s.port.settings.values.length = 19)

/-- R179: READ STATUS, its body a snapshot; RESET_SEEN is shown as it stood and then clear (code 1). R183, R184: READ EVENTS,
CLEAR EVENTS, SET EVENTS and SET EVENT ENABLES, each with the flags and enables after it in its response; attention is high
exactly while a flag and its enable are set (codes 14 to 17). R185, R192: READ COUNTS answers with the fourteen counts; with
the choice 1 every count is 0 in the same step, with 0 they stay, another choice is INVALID (code 18). -/
def Obligations.StatusEventsAndCounts : Prop :=
  (∀ s : State, busy s = false → exec .readStatus s = .next (taken 2 ([1, 0, s.port.mode.code, s.link.state.code]
     ++ bytes2 s.queue.items.length ++ bytes2 s.store.freeList.length ++ bytes2 s.pos.speed ++ bytes4 s.pos.position.toNat
     ++ bytes4 s.pos.time.toNat ++ [if s.pos.halt then 1 else 0, if s.port.resetSeen then 1 else 0])
     { s with port.resetSeen := false }))
  ∧ (∀ (w : Word16) (s : State), busy s = false →
       let f := s.port.flags
       let e := s.port.enables
       exec .readEvents s = .next (taken 2 ([14, 0] ++ bytes2 f.toNat ++ bytes2 e.toNat) s)
       ∧ exec (.clearEvents w) s = .next (taken 4 ([15, 0] ++ bytes2 (f &&& ~~~w).toNat ++ bytes2 e.toNat)
           { s with port.flags := f &&& ~~~w })
       ∧ exec (.setEvents w) s = .next (taken 4 ([16, 0] ++ bytes2 (f ||| w).toNat ++ bytes2 e.toNat) { s with port.flags := f ||| w })
       ∧ exec (.setEventEnables w) s = .next (taken 4 ([17, 0] ++ bytes2 f.toNat ++ bytes2 w.toNat) { s with port.enables := w })
       ∧ (attention s = true ↔ ∃ k : Fin 16, f.getLsbD k = true ∧ e.getLsbD k = true))
  ∧ (∀ (choice : Byte) (s : State), busy s = false →
       let body := s.port.counts.toList.flatMap fun v => [v.extractLsb' 8 8, v.extractLsb' 0 8]
       exec (.readCounts 0) s = .next (taken 3 ([18, 0] ++ body) s)
       ∧ exec (.readCounts 1) s = .next (taken 3 ([18, 0] ++ body) { s with port.counts := Vector.replicate 14 0 })
       ∧ (2 ≤ choice.toNat → exec (.readCounts choice) s = .next (taken 3 [18, 3] s)))

/-- R186, R38, R52, R84, R102, R122, R135, R159, R173: CLEAR in one step, answered OK with the queue count, the records not
FREE and the mode as they stood; what it empties, what it keeps, and the ABORTs it owes with the link UP. Code 19. -/
def Obligations.ClearStartsAgain : Prop :=
  ∀ s : State, busy s = false →
    let used := s.store.frames.toList.countP fun r => decide (r.state ≠ .free)
    ∃ t, exec .clear s = .next t
      ∧ t.port = { s.port with mode := .halt, flags := 0, bus := .idle, spiOut := [0, 0], buffer := .busy ([19, 0]
          ++ bytes2 s.queue.items.length ++ bytes2 used ++ [s.port.mode.code]) }
      ∧ t.pos = s.pos ∧ t.link = s.link ∧ t.queue = { items := [], nextTag := s.queue.nextTag }
      ∧ t.plans.active = s.plans.active ∧ t.plans.pendingSwap = false
      ∧ (∀ n : BankName, bankOf n t = { bankOf n s with inUse := 0 })
      ∧ (∀ st : Station, t.trig[st] = { queue := [], slot := none, timeouts := [] })
      ∧ (∀ p : Station, t.ingest.ports[p] = { parser := .hunt, fifo := [] }) ∧ t.ingest.grant = none
      ∧ t.ingest.pointer = s.ingest.pointer ∧ t.store.freeList.map Fin.val = List.range 8192 ∧ t.store.reclaim = []
      ∧ (∀ id : FrameId, (frameOf id t).state = .free ∧ (frameOf id t).k0 = false ∧ (frameOf id t).k1 = false
          ∧ (frameOf id t).shedNote = false)
      ∧ t.gates.reject = { output := .idle, fires := [] } ∧ t.gates.rework = { output := .idle, fires := [] }
      ∧ t.uplink.deadline = none ∧ t.uplink.region = none ∧ t.uplink.background = none ∧ t.uplink.reports = []
      ∧ t.uplink.regions = [] ∧ t.uplink.bgOrder = [] ∧ t.uplink.replies = s.uplink.replies ∧ t.uplink.lane = s.uplink.lane
      ∧ (s.link.state = .aligning → t.uplink.clearAborts = [])
      ∧ (s.link.state = .up → ∀ a : Abort, a ∈ t.uplink.clearAborts ↔ a ∈ s.uplink.clearAborts
          ∨ (∃ x, s.uplink.deadline = some x ∧ a = { kind := .deadline, frame := x.frame, number := 0, reason := .clear })
          ∨ (∃ x, s.uplink.region = some x ∧ a = { kind := .region, frame := x.frame, number := x.number, reason := .clear })
          ∨ (∃ x, s.uplink.background = some x ∧ a = { kind := .background, frame := x.frame, number := 0, reason := .clear }))

/-! ## Wire formats (chapter 12) -/

/-- Encode and decode agree. On the line port the bytes of every request of the nineteen whose length its layout allows read
back as that request, so that the WRITE REQUEST of those bytes is the request's own command (log 24). On the downlink the 64
bytes of every well-formed office request carry a good CRC-16 and read back as that request. R191, R190: a block whose last
two bytes do not hold the CRC-16 of the first 62, and one cut short, is a bad block; the manual's two check values. 12: a
number stands most significant byte first. 12.5: the 54 bytes that a decision report, a retire report and an item view share,
field by field; bytes not used by a kind are zero. 12.4: the 32-byte header of a segment, field by field, with its payload
behind it. 12.1: the coded values that these two layouts carry. -/
def Obligations.WireFormatsReadBack : Prop :=
  (∀ r : LineRequest, r.lengthOk = true → transactionRequest r.transaction = some r
     ∧ ∀ s : State, exec (.writeRequest (.transaction r.transaction)) s = exec r.command s)
  ∧ (∀ (c : Instr) (bytes : List Byte), c.wellFormed = true → encodeBlock c = some bytes → bytes.length = 64 ∧ blockCommand bytes = c)
  ∧ ((∀ bytes : List Byte, bytes.length = 64 → crc16 (bytes.take 62) ≠ at2 bytes 62 → blockCommand bytes = .badBlock .checkFails)
     ∧ (∀ bytes : List Byte, bytes.length < 64 → blockCommand bytes = .badBlock .cutShort)
     ∧ crc16 [0x31, 0x32, 0x33, 0x34, 0x35, 0x36, 0x37, 0x38, 0x39] = 0x29B1#16
     ∧ crc32 [0x31, 0x32, 0x33, 0x34, 0x35, 0x36, 0x37, 0x38, 0x39] = 0x0376E6E7#32)
  ∧ (∀ n : Nat, (n < 65536 → ∃ a b : Byte, bytes2 n = [a, b] ∧ 256 * a.toNat + b.toNat = n)
     ∧ (n < 16777216 → ∃ a b c : Byte, bytes3 n = [a, b, c] ∧ 65536 * a.toNat + 256 * b.toNat + c.toNat = n)
     ∧ (n < 4294967296 → ∃ a b c d : Byte, bytes4 n = [a, b, c, d]
         ∧ 16777216 * a.toNat + 65536 * b.toNat + 256 * c.toNat + d.toNat = n))
  ∧ (∀ r : Report,
     let at_ (start n : Nat) : List Byte := slice r.bytes start n
     r.bytes.length = 54
     ∧ at_ 0 1 = [match r.kind with | .decision => 0 | .retire => 1 | .view => 2]
     ∧ at_ 1 2 = bytes2 r.tag.val ∧ at_ 3 1 = [if r.bank = .a then 0 else 1] ∧ at_ 4 4 = bytes4 r.entry.toNat
     ∧ at_ 8 1 = [if r.kind = .decision then 0 else r.phase.code]
     ∧ at_ 9 4 = (match r.verdict with | some v => [1, v.action.code, v.failMask, v.revision] | none => [0, 0, 0, 0])
     ∧ at_ 13 2 = (match r.force with | some a => [1, a.code] | none => [0, 0])
     ∧ at_ 15 3 = (match r.decision with | some d => [1, d.action.code, d.cause.code] | none => [0, 0, 0])
     ∧ at_ 18 1 = [if r.kind = .decision then 0 else r.gateOutcome.code]
     ∧ at_ 19 1 = [match r.kind with | .decision => (if r.autoKept then 1 else 0) | .view => BitVec.ofNat 8 r.depth | .retire => 0]
     ∧ (∀ st : Station, at_ (20 + 3 * st.val) 3 = r.stations[st].outcome.code :: (match r.stations[st].outcome.frameId? with
         | some id => bytes2 ((if r.stations[st].present then 32768 else 0) + id.val)
         | none => [0, 0]))
     ∧ at_ 44 4 = bytes4 (if r.kind = .view then r.toPoint else r.position.toNat)
     ∧ at_ 48 4 = (if r.kind = .view then [0, 0, 0, 0] else bytes4 r.time.toNat)
     ∧ at_ 52 2 = (if r.kind = .decision then bytes2 r.speed else [0, 0]))
  ∧ (∀ g : Segment,
     let at_ (start n : Nat) : List Byte := slice g.bytes start n
     g.bytes.length = 32 + g.payload.length ∧ at_ 0 1 = [g.kind.code]
     ∧ at_ 1 1 = [(if g.last then 128 else 0) + (if g.pendingFault then 64 else 0)]
     ∧ at_ 2 2 = bytes2 g.payload.length ∧ at_ 4 4 = bytes4 g.offset
     ∧ at_ 8 2 = (match g.frame with | some id => bytes2 id.val | none => [0, 0]) ∧ at_ 10 1 = [g.number]
     ∧ at_ 11 21 = List.replicate 21 0 ∧ g.bytes.drop 32 = g.payload)
  ∧ ([Action.accept, .reject, .rework].map Action.code = [0, 1, 2]
     ∧ [Cause.forced, .verdict, .trackOnly, .linkDown, .stationFault, .noVerdict].map Cause.code = [0, 1, 2, 3, 4, 5]
     ∧ [Phase.entered, .complete, .decided, .firing, .passed, .void].map Phase.code = [0, 1, 2, 3, 4, 5]
     ∧ (∀ id : FrameId, [StationOutcome.disabled, .waiting, .triggered, .frame id, .damaged id, .lateFrame id, .missing, .dropped,
         .overrun, .skipped].map StationOutcome.code = [0, 1, 2, 3, 4, 5, 6, 7, 8, 9])
     ∧ [GateOutcome.none, .fired, .merged, .lateFire, .missed, .cut].map GateOutcome.code = [0, 1, 2, 3, 4, 5]
     ∧ [SegmentKind.idle, .frameOpen, .frameData, .regionOpen, .regionData, .abort, .report, .reply].map SegmentKind.code
         = [0, 1, 2, 3, 4, 5, 6, 7])
end

