-- ==== Sys2Proof/Laws/Memory.lean ====
section
/-! SUPPORT. The laws of the frame store's bytes: a read after a write, and the canonical form that every write keeps. -/

namespace Sys2Proof.Machine

/-- A canonical memory stays canonical above any lower floor. -/
theorem Memory.wfFrom_mono {m : List Host.Cell} {p q : Nat} (h : q ≤ p) (w : Memory.wfFrom p m = true) :
    Memory.wfFrom q m = true := by
  cases m with
  | nil => rfl
  | cons c rest =>
    obtain ⟨k, b⟩ := c
    simp only [Memory.wfFrom, Bool.and_eq_true, decide_eq_true_eq] at w ⊢
    exact ⟨⟨by omega, w.1.2⟩, w.2⟩

/-- Below its floor a canonical memory holds nothing. -/
theorem Memory.read_below {m : List Host.Cell} {p a : Nat} (h : a < p) (w : Memory.wfFrom p m = true) :
    Memory.read m a = unlistedByte := by
  induction m generalizing p with
  | nil => rfl
  | cons c rest ih =>
    obtain ⟨k, b⟩ := c
    simp only [Memory.wfFrom, Bool.and_eq_true, decide_eq_true_eq] at w
    simp only [Memory.read, if_neg (show ¬ k = a by omega)]
    exact ih (by omega) w.2

/-- A write leaves every other byte alone. -/
theorem Memory.read_write_other (m : List Host.Cell) {a b : Nat} (v : Byte) (h : b ≠ a) :
    Memory.read (Memory.write m a v) b = Memory.read m b := by
  induction m with
  | nil =>
    simp only [Memory.write]
    split
    · rfl
    · simp [Memory.read, Ne.symm h]
  | cons c rest ih =>
    obtain ⟨k, w⟩ := c
    simp only [Memory.write]
    split
    · split
      · rfl
      · simp [Memory.read, Ne.symm h]
    · split
      · rename_i hk
        subst hk
        split <;> simp [Memory.read, Ne.symm h]
      · simp only [Memory.read, ih]

/-- What is canonical above some floor is canonical. -/
theorem Memory.wf_of_from {m : List Host.Cell} {p : Nat} (w : Memory.wfFrom p m = true) : Memory.wf m = true :=
  Memory.wfFrom_mono (Nat.zero_le p) w

/-- A read at the address just written gives the byte written. -/
theorem Memory.read_write_same (m : List Host.Cell) (a : Nat) (v : Byte) (w : Memory.wf m = true) :
    Memory.read (Memory.write m a v) a = v := by
  suffices h : ∀ p, Memory.wfFrom p m = true → Memory.read (Memory.write m a v) a = v from h 0 w
  intro p
  induction m generalizing p with
  | nil =>
    intro _
    simp only [Memory.write]
    split <;> simp_all [Memory.read]
  | cons c rest ih =>
    obtain ⟨k, b⟩ := c
    intro wp
    have wq := wp
    simp only [Memory.wfFrom, Bool.and_eq_true, decide_eq_true_eq] at wp
    simp only [Memory.write]
    split
    · rename_i hlt
      split
      · rename_i hv
        rw [hv]
        exact Memory.read_below (p := k) hlt (by
          simp only [Memory.wfFrom, Bool.and_eq_true, decide_eq_true_eq]; exact ⟨⟨by omega, wp.1.2⟩, wp.2⟩)
      · simp [Memory.read]
    · split
      · rename_i hk
        split
        · rename_i hv
          rw [hv]
          exact Memory.read_below (p := k + 1) (by omega) wp.2
        · simp [Memory.read]
      · rename_i h1 h2
        simp only [Memory.read, if_neg (show ¬ k = a by omega)]
        exact ih (Memory.wf_of_from wp.2) (k + 1) wp.2

/-- A write at or above the floor keeps the canonical form above it. -/
theorem Memory.wfFrom_write {m : List Host.Cell} {p a : Nat} (v : Byte) (h : p ≤ a) (w : Memory.wfFrom p m = true) :
    Memory.wfFrom p (Memory.write m a v) = true := by
  induction m generalizing p with
  | nil =>
    simp only [Memory.write]
    split
    · rfl
    · simp_all [Memory.wfFrom]
  | cons c rest ih =>
    obtain ⟨k, b⟩ := c
    have wq := w
    simp only [Memory.wfFrom, Bool.and_eq_true, decide_eq_true_eq] at w
    simp only [Memory.write]
    split
    · split
      · exact wq
      · simp only [Memory.wfFrom, Bool.and_eq_true, decide_eq_true_eq, bne_iff_ne, ne_eq]
        exact ⟨⟨h, by assumption⟩, ⟨by omega, by simpa using w.1.2⟩, w.2⟩
    · split
      · split
        · exact Memory.wfFrom_mono (by omega) w.2
        · simp only [Memory.wfFrom, Bool.and_eq_true, decide_eq_true_eq, bne_iff_ne, ne_eq]
          exact ⟨⟨h, by assumption⟩, Memory.wfFrom_mono (by omega) w.2⟩
      · simp only [Memory.wfFrom, Bool.and_eq_true, decide_eq_true_eq]
        exact ⟨w.1, ih (by omega) w.2⟩

/-- Every write keeps the canonical form. -/
theorem Memory.wf_write {m : List Host.Cell} (a : Nat) (v : Byte) (w : Memory.wf m = true) :
    Memory.wf (Memory.write m a v) = true :=
  Memory.wfFrom_write v (Nat.zero_le a) w

/-- A run of writes keeps the canonical form. -/
theorem Memory.wf_writeBytes {m : List Host.Cell} (a : Nat) (vs : List Byte) (w : Memory.wf m = true) :
    Memory.wf (Memory.writeBytes m a vs) = true := by
  induction vs generalizing m a with
  | nil => exact w
  | cons v vs ih => exact ih (a + 1) (Memory.wf_write a v w)

/-- A run of writes leaves every byte outside it alone. -/
theorem Memory.read_writeBytes_outside (m : List Host.Cell) (a : Nat) (vs : List Byte) {b : Nat}
    (h : b < a ∨ a + vs.length ≤ b) : Memory.read (Memory.writeBytes m a vs) b = Memory.read m b := by
  induction vs generalizing m a with
  | nil => rfl
  | cons v vs ih =>
    simp only [List.length_cons] at h
    rw [Memory.writeBytes, ih _ _ (by omega), Memory.read_write_other m v (by omega)]

/-- A byte inside a run of writes reads as the byte written there. -/
theorem Memory.read_writeBytes_inside {m : List Host.Cell} (a : Nat) (vs : List Byte) (w : Memory.wf m = true)
    {k : Nat} (h : k < vs.length) : Memory.read (Memory.writeBytes m a vs) (a + k) = vs[k] := by
  induction vs generalizing m a k with
  | nil => simp at h
  | cons v vs ih =>
    cases k with
    | zero =>
      rw [Memory.writeBytes, Memory.read_writeBytes_outside _ _ _ (by omega)]
      exact Memory.read_write_same m a v w
    | succ k =>
      have := ih (a + 1) (Memory.wf_write a v w) (k := k) (by simpa using h)
      rw [Memory.writeBytes, show a + (k + 1) = a + 1 + k by omega, this]
      rfl

/-- Two canonical memories that read alike everywhere are the same data. -/
theorem Memory.ext_of_read {m n : List Host.Cell} (wm : Memory.wf m = true) (wn : Memory.wf n = true)
    (h : ∀ a, Memory.read m a = Memory.read n a) : m = n := by
  suffices g : ∀ p, Memory.wfFrom p m = true → Memory.wfFrom p n = true → m = n from g 0 wm wn
  clear wm wn
  intro p
  induction m generalizing n p with
  | nil =>
    intro _ wn
    cases n with
    | nil => rfl
    | cons c rest =>
      obtain ⟨k, b⟩ := c
      simp only [Memory.wfFrom, Bool.and_eq_true, decide_eq_true_eq, bne_iff_ne, ne_eq] at wn
      have := h k
      simp only [Memory.read, if_true] at this
      exact absurd this.symm wn.1.2
  | cons c rest ih =>
    obtain ⟨k, b⟩ := c
    intro wm wn
    have wm' := wm
    simp only [Memory.wfFrom, Bool.and_eq_true, decide_eq_true_eq, bne_iff_ne, ne_eq] at wm
    cases n with
    | nil =>
      have := h k
      simp only [Memory.read, if_true] at this
      exact absurd this wm.1.2
    | cons d rest' =>
      obtain ⟨l, e⟩ := d
      have wn' := wn
      simp only [Memory.wfFrom, Bool.and_eq_true, decide_eq_true_eq, bne_iff_ne, ne_eq] at wn
      have hk := h k
      have hl := h l
      have e1 : k = l := by
        rcases Nat.lt_trichotomy k l with lt | eq | gt
        · exfalso
          simp only [Memory.read, if_true, if_neg (show ¬ l = k by omega)] at hk
          rw [Memory.read_below (show k < l + 1 by omega) wn.2] at hk
          exact wm.1.2 hk
        · exact eq
        · exfalso
          simp only [Memory.read, if_true, if_neg (show ¬ k = l by omega)] at hl
          rw [Memory.read_below (show l < k + 1 by omega) wm.2] at hl
          exact wn.1.2 hl.symm
      subst e1
      simp only [Memory.read, if_true] at hk
      subst hk
      congr 1
      refine ih ?_ (k + 1) wm.2 wn.2
      intro a
      by_cases hak : k = a
      · subst hak
        rw [Memory.read_below (Nat.lt_succ_self k) wm.2, Memory.read_below (Nat.lt_succ_self k) wn.2]
      · have := h a
        simpa only [Memory.read, if_neg hak] using this

end Sys2Proof.Machine
end

