-- ==== Sys2Proof/Laws/State.lean ====
section
/-! SUPPORT. What each named update of the state leaves as it was, field by field, for `simp`. -/

namespace Sys2Proof.Machine

variable (s : State)

/-! ## `raise` -/

@[simp] theorem raise_pos (e : Event) : (raise e s).pos = s.pos := rfl
@[simp] theorem raise_queue (e : Event) : (raise e s).queue = s.queue := rfl
@[simp] theorem raise_plans (e : Event) : (raise e s).plans = s.plans := rfl
@[simp] theorem raise_trig (e : Event) : (raise e s).trig = s.trig := rfl
@[simp] theorem raise_ingest (e : Event) : (raise e s).ingest = s.ingest := rfl
@[simp] theorem raise_store (e : Event) : (raise e s).store = s.store := rfl
@[simp] theorem raise_uplink (e : Event) : (raise e s).uplink = s.uplink := rfl
@[simp] theorem raise_gates (e : Event) : (raise e s).gates = s.gates := rfl
@[simp] theorem raise_link (e : Event) : (raise e s).link = s.link := rfl
@[simp] theorem raise_freeCtr (e : Event) : (raise e s).freeCtr = s.freeCtr := rfl
@[simp] theorem raise_pending (e : Event) : (raise e s).pending = s.pending := rfl
@[simp] theorem raise_port_mode (e : Event) : (raise e s).port.mode = s.port.mode := rfl
@[simp] theorem raise_port_settings (e : Event) : (raise e s).port.settings = s.port.settings := rfl
@[simp] theorem raise_port_enables (e : Event) : (raise e s).port.enables = s.port.enables := rfl
@[simp] theorem raise_port_counts (e : Event) : (raise e s).port.counts = s.port.counts := rfl
@[simp] theorem raise_port_buffer (e : Event) : (raise e s).port.buffer = s.port.buffer := rfl
@[simp] theorem raise_port_refused (e : Event) : (raise e s).port.refused = s.port.refused := rfl
@[simp] theorem raise_port_resetSeen (e : Event) : (raise e s).port.resetSeen = s.port.resetSeen := rfl
@[simp] theorem raise_port_spiOut (e : Event) : (raise e s).port.spiOut = s.port.spiOut := rfl
@[simp] theorem raise_port_bus (e : Event) : (raise e s).port.bus = s.port.bus := rfl

/-! ## `bump` -/

@[simp] theorem bump_pos (c : Count) : (bump c s).pos = s.pos := rfl
@[simp] theorem bump_queue (c : Count) : (bump c s).queue = s.queue := rfl
@[simp] theorem bump_plans (c : Count) : (bump c s).plans = s.plans := rfl
@[simp] theorem bump_trig (c : Count) : (bump c s).trig = s.trig := rfl
@[simp] theorem bump_ingest (c : Count) : (bump c s).ingest = s.ingest := rfl
@[simp] theorem bump_store (c : Count) : (bump c s).store = s.store := rfl
@[simp] theorem bump_uplink (c : Count) : (bump c s).uplink = s.uplink := rfl
@[simp] theorem bump_gates (c : Count) : (bump c s).gates = s.gates := rfl
@[simp] theorem bump_link (c : Count) : (bump c s).link = s.link := rfl
@[simp] theorem bump_freeCtr (c : Count) : (bump c s).freeCtr = s.freeCtr := rfl
@[simp] theorem bump_pending (c : Count) : (bump c s).pending = s.pending := rfl
@[simp] theorem bump_port_mode (c : Count) : (bump c s).port.mode = s.port.mode := rfl
@[simp] theorem bump_port_settings (c : Count) : (bump c s).port.settings = s.port.settings := rfl
@[simp] theorem bump_port_flags (c : Count) : (bump c s).port.flags = s.port.flags := rfl
@[simp] theorem bump_port_enables (c : Count) : (bump c s).port.enables = s.port.enables := rfl
@[simp] theorem bump_port_buffer (c : Count) : (bump c s).port.buffer = s.port.buffer := rfl
@[simp] theorem bump_port_refused (c : Count) : (bump c s).port.refused = s.port.refused := rfl
@[simp] theorem bump_port_resetSeen (c : Count) : (bump c s).port.resetSeen = s.port.resetSeen := rfl
@[simp] theorem bump_port_spiOut (c : Count) : (bump c s).port.spiOut = s.port.spiOut := rfl
@[simp] theorem bump_port_bus (c : Count) : (bump c s).port.bus = s.port.bus := rfl

/-! ## `stationFault` -/

@[simp] theorem stationFault_pos : (stationFault s).pos = s.pos := rfl
@[simp] theorem stationFault_queue : (stationFault s).queue = s.queue := rfl
@[simp] theorem stationFault_plans : (stationFault s).plans = s.plans := rfl
@[simp] theorem stationFault_trig : (stationFault s).trig = s.trig := rfl
@[simp] theorem stationFault_ingest : (stationFault s).ingest = s.ingest := rfl
@[simp] theorem stationFault_store : (stationFault s).store = s.store := rfl
@[simp] theorem stationFault_uplink : (stationFault s).uplink = s.uplink := rfl
@[simp] theorem stationFault_gates : (stationFault s).gates = s.gates := rfl
@[simp] theorem stationFault_link : (stationFault s).link = s.link := rfl
@[simp] theorem stationFault_freeCtr : (stationFault s).freeCtr = s.freeCtr := rfl
@[simp] theorem stationFault_pending : (stationFault s).pending = s.pending := rfl
@[simp] theorem stationFault_port_mode : (stationFault s).port.mode = s.port.mode := rfl
@[simp] theorem stationFault_port_settings : (stationFault s).port.settings = s.port.settings := rfl
@[simp] theorem stationFault_port_enables : (stationFault s).port.enables = s.port.enables := rfl
@[simp] theorem stationFault_port_buffer : (stationFault s).port.buffer = s.port.buffer := rfl
@[simp] theorem stationFault_port_refused : (stationFault s).port.refused = s.port.refused := rfl
@[simp] theorem stationFault_port_resetSeen : (stationFault s).port.resetSeen = s.port.resetSeen := rfl
@[simp] theorem stationFault_port_spiOut : (stationFault s).port.spiOut = s.port.spiOut := rfl
@[simp] theorem stationFault_port_bus : (stationFault s).port.bus = s.port.bus := rfl

/-! ## `updBank` -/

@[simp] theorem updBank_pos (n : BankName) (f : PlanBank → PlanBank) : (updBank n f s).pos = s.pos := by cases n <;> rfl
@[simp] theorem updBank_queue (n : BankName) (f : PlanBank → PlanBank) : (updBank n f s).queue = s.queue := by cases n <;> rfl
@[simp] theorem updBank_trig (n : BankName) (f : PlanBank → PlanBank) : (updBank n f s).trig = s.trig := by cases n <;> rfl
@[simp] theorem updBank_ingest (n : BankName) (f : PlanBank → PlanBank) : (updBank n f s).ingest = s.ingest := by cases n <;> rfl
@[simp] theorem updBank_store (n : BankName) (f : PlanBank → PlanBank) : (updBank n f s).store = s.store := by cases n <;> rfl
@[simp] theorem updBank_uplink (n : BankName) (f : PlanBank → PlanBank) : (updBank n f s).uplink = s.uplink := by cases n <;> rfl
@[simp] theorem updBank_gates (n : BankName) (f : PlanBank → PlanBank) : (updBank n f s).gates = s.gates := by cases n <;> rfl
@[simp] theorem updBank_link (n : BankName) (f : PlanBank → PlanBank) : (updBank n f s).link = s.link := by cases n <;> rfl
@[simp] theorem updBank_port (n : BankName) (f : PlanBank → PlanBank) : (updBank n f s).port = s.port := by cases n <;> rfl
@[simp] theorem updBank_freeCtr (n : BankName) (f : PlanBank → PlanBank) : (updBank n f s).freeCtr = s.freeCtr := by cases n <;> rfl
@[simp] theorem updBank_pending (n : BankName) (f : PlanBank → PlanBank) : (updBank n f s).pending = s.pending := by cases n <;> rfl
@[simp] theorem updBank_plans_active (n : BankName) (f : PlanBank → PlanBank) : (updBank n f s).plans.active = s.plans.active := by cases n <;> rfl
@[simp] theorem updBank_plans_pendingSwap (n : BankName) (f : PlanBank → PlanBank) : (updBank n f s).plans.pendingSwap = s.plans.pendingSwap := by cases n <;> rfl

/-! ## `swapBanks` -/

@[simp] theorem swapBanks_pos : (swapBanks s).pos = s.pos := rfl
@[simp] theorem swapBanks_queue : (swapBanks s).queue = s.queue := rfl
@[simp] theorem swapBanks_trig : (swapBanks s).trig = s.trig := rfl
@[simp] theorem swapBanks_ingest : (swapBanks s).ingest = s.ingest := rfl
@[simp] theorem swapBanks_store : (swapBanks s).store = s.store := rfl
@[simp] theorem swapBanks_uplink : (swapBanks s).uplink = s.uplink := rfl
@[simp] theorem swapBanks_gates : (swapBanks s).gates = s.gates := rfl
@[simp] theorem swapBanks_link : (swapBanks s).link = s.link := rfl
@[simp] theorem swapBanks_freeCtr : (swapBanks s).freeCtr = s.freeCtr := rfl
@[simp] theorem swapBanks_pending : (swapBanks s).pending = s.pending := rfl
@[simp] theorem swapBanks_port_mode : (swapBanks s).port.mode = s.port.mode := rfl
@[simp] theorem swapBanks_port_settings : (swapBanks s).port.settings = s.port.settings := rfl
@[simp] theorem swapBanks_port_enables : (swapBanks s).port.enables = s.port.enables := rfl
@[simp] theorem swapBanks_port_counts : (swapBanks s).port.counts = s.port.counts := rfl
@[simp] theorem swapBanks_port_buffer : (swapBanks s).port.buffer = s.port.buffer := rfl
@[simp] theorem swapBanks_port_refused : (swapBanks s).port.refused = s.port.refused := rfl
@[simp] theorem swapBanks_port_resetSeen : (swapBanks s).port.resetSeen = s.port.resetSeen := rfl
@[simp] theorem swapBanks_port_spiOut : (swapBanks s).port.spiOut = s.port.spiOut := rfl
@[simp] theorem swapBanks_port_bus : (swapBanks s).port.bus = s.port.bus := rfl

/-! ## `swapIfPending` -/

@[simp] theorem swapIfPending_pos : (swapIfPending s).pos = s.pos := by unfold swapIfPending; split <;> rfl
@[simp] theorem swapIfPending_queue : (swapIfPending s).queue = s.queue := by unfold swapIfPending; split <;> rfl
@[simp] theorem swapIfPending_trig : (swapIfPending s).trig = s.trig := by unfold swapIfPending; split <;> rfl
@[simp] theorem swapIfPending_ingest : (swapIfPending s).ingest = s.ingest := by unfold swapIfPending; split <;> rfl
@[simp] theorem swapIfPending_store : (swapIfPending s).store = s.store := by unfold swapIfPending; split <;> rfl
@[simp] theorem swapIfPending_uplink : (swapIfPending s).uplink = s.uplink := by unfold swapIfPending; split <;> rfl
@[simp] theorem swapIfPending_gates : (swapIfPending s).gates = s.gates := by unfold swapIfPending; split <;> rfl
@[simp] theorem swapIfPending_link : (swapIfPending s).link = s.link := by unfold swapIfPending; split <;> rfl
@[simp] theorem swapIfPending_freeCtr : (swapIfPending s).freeCtr = s.freeCtr := by unfold swapIfPending; split <;> rfl
@[simp] theorem swapIfPending_pending : (swapIfPending s).pending = s.pending := by unfold swapIfPending; split <;> rfl
@[simp] theorem swapIfPending_port_mode : (swapIfPending s).port.mode = s.port.mode := by unfold swapIfPending; split <;> rfl
@[simp] theorem swapIfPending_port_settings : (swapIfPending s).port.settings = s.port.settings := by unfold swapIfPending; split <;> rfl
@[simp] theorem swapIfPending_port_enables : (swapIfPending s).port.enables = s.port.enables := by unfold swapIfPending; split <;> rfl
@[simp] theorem swapIfPending_port_counts : (swapIfPending s).port.counts = s.port.counts := by unfold swapIfPending; split <;> rfl
@[simp] theorem swapIfPending_port_buffer : (swapIfPending s).port.buffer = s.port.buffer := by unfold swapIfPending; split <;> rfl
@[simp] theorem swapIfPending_port_refused : (swapIfPending s).port.refused = s.port.refused := by unfold swapIfPending; split <;> rfl
@[simp] theorem swapIfPending_port_resetSeen : (swapIfPending s).port.resetSeen = s.port.resetSeen := by unfold swapIfPending; split <;> rfl
@[simp] theorem swapIfPending_port_spiOut : (swapIfPending s).port.spiOut = s.port.spiOut := by unfold swapIfPending; split <;> rfl
@[simp] theorem swapIfPending_port_bus : (swapIfPending s).port.bus = s.port.bus := by unfold swapIfPending; split <;> rfl

/-! ## `updItem` -/

@[simp] theorem updItem_pos (tag : Tag) (f : Item → Item) : (updItem tag f s).pos = s.pos := rfl
@[simp] theorem updItem_plans (tag : Tag) (f : Item → Item) : (updItem tag f s).plans = s.plans := rfl
@[simp] theorem updItem_trig (tag : Tag) (f : Item → Item) : (updItem tag f s).trig = s.trig := rfl
@[simp] theorem updItem_ingest (tag : Tag) (f : Item → Item) : (updItem tag f s).ingest = s.ingest := rfl
@[simp] theorem updItem_store (tag : Tag) (f : Item → Item) : (updItem tag f s).store = s.store := rfl
@[simp] theorem updItem_uplink (tag : Tag) (f : Item → Item) : (updItem tag f s).uplink = s.uplink := rfl
@[simp] theorem updItem_gates (tag : Tag) (f : Item → Item) : (updItem tag f s).gates = s.gates := rfl
@[simp] theorem updItem_link (tag : Tag) (f : Item → Item) : (updItem tag f s).link = s.link := rfl
@[simp] theorem updItem_port (tag : Tag) (f : Item → Item) : (updItem tag f s).port = s.port := rfl
@[simp] theorem updItem_freeCtr (tag : Tag) (f : Item → Item) : (updItem tag f s).freeCtr = s.freeCtr := rfl
@[simp] theorem updItem_pending (tag : Tag) (f : Item → Item) : (updItem tag f s).pending = s.pending := rfl
@[simp] theorem updItem_queue_nextTag (tag : Tag) (f : Item → Item) : (updItem tag f s).queue.nextTag = s.queue.nextTag := rfl

/-! ## `setStation` -/

@[simp] theorem setStation_pos (tag : Tag) (st : Station) (o : StationOutcome) : (setStation tag st o s).pos = s.pos := rfl
@[simp] theorem setStation_plans (tag : Tag) (st : Station) (o : StationOutcome) : (setStation tag st o s).plans = s.plans := rfl
@[simp] theorem setStation_trig (tag : Tag) (st : Station) (o : StationOutcome) : (setStation tag st o s).trig = s.trig := rfl
@[simp] theorem setStation_ingest (tag : Tag) (st : Station) (o : StationOutcome) : (setStation tag st o s).ingest = s.ingest := rfl
@[simp] theorem setStation_store (tag : Tag) (st : Station) (o : StationOutcome) : (setStation tag st o s).store = s.store := rfl
@[simp] theorem setStation_uplink (tag : Tag) (st : Station) (o : StationOutcome) : (setStation tag st o s).uplink = s.uplink := rfl
@[simp] theorem setStation_gates (tag : Tag) (st : Station) (o : StationOutcome) : (setStation tag st o s).gates = s.gates := rfl
@[simp] theorem setStation_link (tag : Tag) (st : Station) (o : StationOutcome) : (setStation tag st o s).link = s.link := rfl
@[simp] theorem setStation_port (tag : Tag) (st : Station) (o : StationOutcome) : (setStation tag st o s).port = s.port := rfl
@[simp] theorem setStation_freeCtr (tag : Tag) (st : Station) (o : StationOutcome) : (setStation tag st o s).freeCtr = s.freeCtr := rfl
@[simp] theorem setStation_pending (tag : Tag) (st : Station) (o : StationOutcome) : (setStation tag st o s).pending = s.pending := rfl
@[simp] theorem setStation_queue_nextTag (tag : Tag) (st : Station) (o : StationOutcome) : (setStation tag st o s).queue.nextTag = s.queue.nextTag := rfl

/-! ## `setGateOutcome` -/

@[simp] theorem setGateOutcome_pos (tag : Tag) (p : Phase) (o : GateOutcome) : (setGateOutcome tag p o s).pos = s.pos := rfl
@[simp] theorem setGateOutcome_plans (tag : Tag) (p : Phase) (o : GateOutcome) : (setGateOutcome tag p o s).plans = s.plans := rfl
@[simp] theorem setGateOutcome_trig (tag : Tag) (p : Phase) (o : GateOutcome) : (setGateOutcome tag p o s).trig = s.trig := rfl
@[simp] theorem setGateOutcome_ingest (tag : Tag) (p : Phase) (o : GateOutcome) : (setGateOutcome tag p o s).ingest = s.ingest := rfl
@[simp] theorem setGateOutcome_store (tag : Tag) (p : Phase) (o : GateOutcome) : (setGateOutcome tag p o s).store = s.store := rfl
@[simp] theorem setGateOutcome_uplink (tag : Tag) (p : Phase) (o : GateOutcome) : (setGateOutcome tag p o s).uplink = s.uplink := rfl
@[simp] theorem setGateOutcome_gates (tag : Tag) (p : Phase) (o : GateOutcome) : (setGateOutcome tag p o s).gates = s.gates := rfl
@[simp] theorem setGateOutcome_link (tag : Tag) (p : Phase) (o : GateOutcome) : (setGateOutcome tag p o s).link = s.link := rfl
@[simp] theorem setGateOutcome_port (tag : Tag) (p : Phase) (o : GateOutcome) : (setGateOutcome tag p o s).port = s.port := rfl
@[simp] theorem setGateOutcome_freeCtr (tag : Tag) (p : Phase) (o : GateOutcome) : (setGateOutcome tag p o s).freeCtr = s.freeCtr := rfl
@[simp] theorem setGateOutcome_pending (tag : Tag) (p : Phase) (o : GateOutcome) : (setGateOutcome tag p o s).pending = s.pending := rfl
@[simp] theorem setGateOutcome_queue_nextTag (tag : Tag) (p : Phase) (o : GateOutcome) : (setGateOutcome tag p o s).queue.nextTag = s.queue.nextTag := rfl

/-! ## `setFrame` -/

@[simp] theorem setFrame_pos (id : FrameId) (r : FrameRecord) : (setFrame id r s).pos = s.pos := rfl
@[simp] theorem setFrame_queue (id : FrameId) (r : FrameRecord) : (setFrame id r s).queue = s.queue := rfl
@[simp] theorem setFrame_plans (id : FrameId) (r : FrameRecord) : (setFrame id r s).plans = s.plans := rfl
@[simp] theorem setFrame_trig (id : FrameId) (r : FrameRecord) : (setFrame id r s).trig = s.trig := rfl
@[simp] theorem setFrame_ingest (id : FrameId) (r : FrameRecord) : (setFrame id r s).ingest = s.ingest := rfl
@[simp] theorem setFrame_uplink (id : FrameId) (r : FrameRecord) : (setFrame id r s).uplink = s.uplink := rfl
@[simp] theorem setFrame_gates (id : FrameId) (r : FrameRecord) : (setFrame id r s).gates = s.gates := rfl
@[simp] theorem setFrame_link (id : FrameId) (r : FrameRecord) : (setFrame id r s).link = s.link := rfl
@[simp] theorem setFrame_port (id : FrameId) (r : FrameRecord) : (setFrame id r s).port = s.port := rfl
@[simp] theorem setFrame_freeCtr (id : FrameId) (r : FrameRecord) : (setFrame id r s).freeCtr = s.freeCtr := rfl
@[simp] theorem setFrame_pending (id : FrameId) (r : FrameRecord) : (setFrame id r s).pending = s.pending := rfl
@[simp] theorem setFrame_store_freeList (id : FrameId) (r : FrameRecord) : (setFrame id r s).store.freeList = s.store.freeList := rfl
@[simp] theorem setFrame_store_reclaim (id : FrameId) (r : FrameRecord) : (setFrame id r s).store.reclaim = s.store.reclaim := rfl
@[simp] theorem setFrame_store_mem (id : FrameId) (r : FrameRecord) : (setFrame id r s).store.mem = s.store.mem := rfl

/-! ## `freeFrame` -/

@[simp] theorem freeFrame_pos (id : FrameId) : (freeFrame id s).pos = s.pos := rfl
@[simp] theorem freeFrame_queue (id : FrameId) : (freeFrame id s).queue = s.queue := rfl
@[simp] theorem freeFrame_plans (id : FrameId) : (freeFrame id s).plans = s.plans := rfl
@[simp] theorem freeFrame_trig (id : FrameId) : (freeFrame id s).trig = s.trig := rfl
@[simp] theorem freeFrame_ingest (id : FrameId) : (freeFrame id s).ingest = s.ingest := rfl
@[simp] theorem freeFrame_gates (id : FrameId) : (freeFrame id s).gates = s.gates := rfl
@[simp] theorem freeFrame_link (id : FrameId) : (freeFrame id s).link = s.link := rfl
@[simp] theorem freeFrame_port (id : FrameId) : (freeFrame id s).port = s.port := rfl
@[simp] theorem freeFrame_freeCtr (id : FrameId) : (freeFrame id s).freeCtr = s.freeCtr := rfl
@[simp] theorem freeFrame_pending (id : FrameId) : (freeFrame id s).pending = s.pending := rfl
@[simp] theorem freeFrame_store_mem (id : FrameId) : (freeFrame id s).store.mem = s.store.mem := rfl
@[simp] theorem freeFrame_uplink_deadline (id : FrameId) : (freeFrame id s).uplink.deadline = s.uplink.deadline := rfl
@[simp] theorem freeFrame_uplink_region (id : FrameId) : (freeFrame id s).uplink.region = s.uplink.region := rfl
@[simp] theorem freeFrame_uplink_background (id : FrameId) : (freeFrame id s).uplink.background = s.uplink.background := rfl
@[simp] theorem freeFrame_uplink_clearAborts (id : FrameId) : (freeFrame id s).uplink.clearAborts = s.uplink.clearAborts := rfl
@[simp] theorem freeFrame_uplink_replies (id : FrameId) : (freeFrame id s).uplink.replies = s.uplink.replies := rfl
@[simp] theorem freeFrame_uplink_reports (id : FrameId) : (freeFrame id s).uplink.reports = s.uplink.reports := rfl
@[simp] theorem freeFrame_uplink_regions (id : FrameId) : (freeFrame id s).uplink.regions = s.uplink.regions := rfl
@[simp] theorem freeFrame_uplink_lane (id : FrameId) : (freeFrame id s).uplink.lane = s.uplink.lane := rfl

/-! ## `settleFrame` -/

@[simp] theorem settleFrame_pos (id : FrameId) : (settleFrame id s).pos = s.pos := by unfold settleFrame; split <;> rfl
@[simp] theorem settleFrame_queue (id : FrameId) : (settleFrame id s).queue = s.queue := by unfold settleFrame; split <;> rfl
@[simp] theorem settleFrame_plans (id : FrameId) : (settleFrame id s).plans = s.plans := by unfold settleFrame; split <;> rfl
@[simp] theorem settleFrame_trig (id : FrameId) : (settleFrame id s).trig = s.trig := by unfold settleFrame; split <;> rfl
@[simp] theorem settleFrame_ingest (id : FrameId) : (settleFrame id s).ingest = s.ingest := by unfold settleFrame; split <;> rfl
@[simp] theorem settleFrame_gates (id : FrameId) : (settleFrame id s).gates = s.gates := by unfold settleFrame; split <;> rfl
@[simp] theorem settleFrame_link (id : FrameId) : (settleFrame id s).link = s.link := by unfold settleFrame; split <;> rfl
@[simp] theorem settleFrame_port (id : FrameId) : (settleFrame id s).port = s.port := by unfold settleFrame; split <;> rfl
@[simp] theorem settleFrame_freeCtr (id : FrameId) : (settleFrame id s).freeCtr = s.freeCtr := by unfold settleFrame; split <;> rfl
@[simp] theorem settleFrame_pending (id : FrameId) : (settleFrame id s).pending = s.pending := by unfold settleFrame; split <;> rfl
@[simp] theorem settleFrame_store_mem (id : FrameId) : (settleFrame id s).store.mem = s.store.mem := by unfold settleFrame; split <;> rfl
@[simp] theorem settleFrame_uplink_deadline (id : FrameId) : (settleFrame id s).uplink.deadline = s.uplink.deadline := by unfold settleFrame; split <;> rfl
@[simp] theorem settleFrame_uplink_region (id : FrameId) : (settleFrame id s).uplink.region = s.uplink.region := by unfold settleFrame; split <;> rfl
@[simp] theorem settleFrame_uplink_background (id : FrameId) : (settleFrame id s).uplink.background = s.uplink.background := by unfold settleFrame; split <;> rfl
@[simp] theorem settleFrame_uplink_clearAborts (id : FrameId) : (settleFrame id s).uplink.clearAborts = s.uplink.clearAborts := by unfold settleFrame; split <;> rfl
@[simp] theorem settleFrame_uplink_replies (id : FrameId) : (settleFrame id s).uplink.replies = s.uplink.replies := by unfold settleFrame; split <;> rfl
@[simp] theorem settleFrame_uplink_reports (id : FrameId) : (settleFrame id s).uplink.reports = s.uplink.reports := by unfold settleFrame; split <;> rfl
@[simp] theorem settleFrame_uplink_regions (id : FrameId) : (settleFrame id s).uplink.regions = s.uplink.regions := by unfold settleFrame; split <;> rfl
@[simp] theorem settleFrame_uplink_lane (id : FrameId) : (settleFrame id s).uplink.lane = s.uplink.lane := by unfold settleFrame; split <;> rfl

/-! ## `updFrame` -/

@[simp] theorem updFrame_pos (id : FrameId) (f : FrameRecord → FrameRecord) : (updFrame id f s).pos = s.pos := by simp [updFrame]
@[simp] theorem updFrame_queue (id : FrameId) (f : FrameRecord → FrameRecord) : (updFrame id f s).queue = s.queue := by simp [updFrame]
@[simp] theorem updFrame_plans (id : FrameId) (f : FrameRecord → FrameRecord) : (updFrame id f s).plans = s.plans := by simp [updFrame]
@[simp] theorem updFrame_trig (id : FrameId) (f : FrameRecord → FrameRecord) : (updFrame id f s).trig = s.trig := by simp [updFrame]
@[simp] theorem updFrame_ingest (id : FrameId) (f : FrameRecord → FrameRecord) : (updFrame id f s).ingest = s.ingest := by simp [updFrame]
@[simp] theorem updFrame_gates (id : FrameId) (f : FrameRecord → FrameRecord) : (updFrame id f s).gates = s.gates := by simp [updFrame]
@[simp] theorem updFrame_link (id : FrameId) (f : FrameRecord → FrameRecord) : (updFrame id f s).link = s.link := by simp [updFrame]
@[simp] theorem updFrame_port (id : FrameId) (f : FrameRecord → FrameRecord) : (updFrame id f s).port = s.port := by simp [updFrame]
@[simp] theorem updFrame_freeCtr (id : FrameId) (f : FrameRecord → FrameRecord) : (updFrame id f s).freeCtr = s.freeCtr := by simp [updFrame]
@[simp] theorem updFrame_pending (id : FrameId) (f : FrameRecord → FrameRecord) : (updFrame id f s).pending = s.pending := by simp [updFrame]
@[simp] theorem updFrame_store_mem (id : FrameId) (f : FrameRecord → FrameRecord) : (updFrame id f s).store.mem = s.store.mem := by simp [updFrame]
@[simp] theorem updFrame_uplink_deadline (id : FrameId) (f : FrameRecord → FrameRecord) : (updFrame id f s).uplink.deadline = s.uplink.deadline := by simp [updFrame]
@[simp] theorem updFrame_uplink_region (id : FrameId) (f : FrameRecord → FrameRecord) : (updFrame id f s).uplink.region = s.uplink.region := by simp [updFrame]
@[simp] theorem updFrame_uplink_background (id : FrameId) (f : FrameRecord → FrameRecord) : (updFrame id f s).uplink.background = s.uplink.background := by simp [updFrame]
@[simp] theorem updFrame_uplink_clearAborts (id : FrameId) (f : FrameRecord → FrameRecord) : (updFrame id f s).uplink.clearAborts = s.uplink.clearAborts := by simp [updFrame]
@[simp] theorem updFrame_uplink_replies (id : FrameId) (f : FrameRecord → FrameRecord) : (updFrame id f s).uplink.replies = s.uplink.replies := by simp [updFrame]
@[simp] theorem updFrame_uplink_reports (id : FrameId) (f : FrameRecord → FrameRecord) : (updFrame id f s).uplink.reports = s.uplink.reports := by simp [updFrame]
@[simp] theorem updFrame_uplink_regions (id : FrameId) (f : FrameRecord → FrameRecord) : (updFrame id f s).uplink.regions = s.uplink.regions := by simp [updFrame]
@[simp] theorem updFrame_uplink_lane (id : FrameId) (f : FrameRecord → FrameRecord) : (updFrame id f s).uplink.lane = s.uplink.lane := by simp [updFrame]

/-! ## `updTrig` -/

@[simp] theorem updTrig_pos (st : Station) (f : StationTriggers → StationTriggers) : (updTrig st f s).pos = s.pos := rfl
@[simp] theorem updTrig_queue (st : Station) (f : StationTriggers → StationTriggers) : (updTrig st f s).queue = s.queue := rfl
@[simp] theorem updTrig_plans (st : Station) (f : StationTriggers → StationTriggers) : (updTrig st f s).plans = s.plans := rfl
@[simp] theorem updTrig_ingest (st : Station) (f : StationTriggers → StationTriggers) : (updTrig st f s).ingest = s.ingest := rfl
@[simp] theorem updTrig_store (st : Station) (f : StationTriggers → StationTriggers) : (updTrig st f s).store = s.store := rfl
@[simp] theorem updTrig_uplink (st : Station) (f : StationTriggers → StationTriggers) : (updTrig st f s).uplink = s.uplink := rfl
@[simp] theorem updTrig_gates (st : Station) (f : StationTriggers → StationTriggers) : (updTrig st f s).gates = s.gates := rfl
@[simp] theorem updTrig_link (st : Station) (f : StationTriggers → StationTriggers) : (updTrig st f s).link = s.link := rfl
@[simp] theorem updTrig_port (st : Station) (f : StationTriggers → StationTriggers) : (updTrig st f s).port = s.port := rfl
@[simp] theorem updTrig_freeCtr (st : Station) (f : StationTriggers → StationTriggers) : (updTrig st f s).freeCtr = s.freeCtr := rfl
@[simp] theorem updTrig_pending (st : Station) (f : StationTriggers → StationTriggers) : (updTrig st f s).pending = s.pending := rfl

/-! ## `removeTriggers` -/

@[simp] theorem removeTriggers_pos (tag : Tag) (bank : BankName) : (removeTriggers tag bank s).pos = s.pos := rfl
@[simp] theorem removeTriggers_queue (tag : Tag) (bank : BankName) : (removeTriggers tag bank s).queue = s.queue := rfl
@[simp] theorem removeTriggers_plans (tag : Tag) (bank : BankName) : (removeTriggers tag bank s).plans = s.plans := rfl
@[simp] theorem removeTriggers_ingest (tag : Tag) (bank : BankName) : (removeTriggers tag bank s).ingest = s.ingest := rfl
@[simp] theorem removeTriggers_store (tag : Tag) (bank : BankName) : (removeTriggers tag bank s).store = s.store := rfl
@[simp] theorem removeTriggers_uplink (tag : Tag) (bank : BankName) : (removeTriggers tag bank s).uplink = s.uplink := rfl
@[simp] theorem removeTriggers_gates (tag : Tag) (bank : BankName) : (removeTriggers tag bank s).gates = s.gates := rfl
@[simp] theorem removeTriggers_link (tag : Tag) (bank : BankName) : (removeTriggers tag bank s).link = s.link := rfl
@[simp] theorem removeTriggers_port (tag : Tag) (bank : BankName) : (removeTriggers tag bank s).port = s.port := rfl
@[simp] theorem removeTriggers_freeCtr (tag : Tag) (bank : BankName) : (removeTriggers tag bank s).freeCtr = s.freeCtr := rfl
@[simp] theorem removeTriggers_pending (tag : Tag) (bank : BankName) : (removeTriggers tag bank s).pending = s.pending := rfl

/-! ## `updPort` -/

@[simp] theorem updPort_pos (p : Station) (f : Port → Port) : (updPort p f s).pos = s.pos := rfl
@[simp] theorem updPort_queue (p : Station) (f : Port → Port) : (updPort p f s).queue = s.queue := rfl
@[simp] theorem updPort_plans (p : Station) (f : Port → Port) : (updPort p f s).plans = s.plans := rfl
@[simp] theorem updPort_trig (p : Station) (f : Port → Port) : (updPort p f s).trig = s.trig := rfl
@[simp] theorem updPort_store (p : Station) (f : Port → Port) : (updPort p f s).store = s.store := rfl
@[simp] theorem updPort_uplink (p : Station) (f : Port → Port) : (updPort p f s).uplink = s.uplink := rfl
@[simp] theorem updPort_gates (p : Station) (f : Port → Port) : (updPort p f s).gates = s.gates := rfl
@[simp] theorem updPort_link (p : Station) (f : Port → Port) : (updPort p f s).link = s.link := rfl
@[simp] theorem updPort_port (p : Station) (f : Port → Port) : (updPort p f s).port = s.port := rfl
@[simp] theorem updPort_freeCtr (p : Station) (f : Port → Port) : (updPort p f s).freeCtr = s.freeCtr := rfl
@[simp] theorem updPort_pending (p : Station) (f : Port → Port) : (updPort p f s).pending = s.pending := rfl
@[simp] theorem updPort_ingest_grant (p : Station) (f : Port → Port) : (updPort p f s).ingest.grant = s.ingest.grant := rfl
@[simp] theorem updPort_ingest_pointer (p : Station) (f : Port → Port) : (updPort p f s).ingest.pointer = s.ingest.pointer := rfl

/-! ## `setParser` -/

@[simp] theorem setParser_pos (p : Station) (q : Parser) : (setParser p q s).pos = s.pos := rfl
@[simp] theorem setParser_queue (p : Station) (q : Parser) : (setParser p q s).queue = s.queue := rfl
@[simp] theorem setParser_plans (p : Station) (q : Parser) : (setParser p q s).plans = s.plans := rfl
@[simp] theorem setParser_trig (p : Station) (q : Parser) : (setParser p q s).trig = s.trig := rfl
@[simp] theorem setParser_store (p : Station) (q : Parser) : (setParser p q s).store = s.store := rfl
@[simp] theorem setParser_uplink (p : Station) (q : Parser) : (setParser p q s).uplink = s.uplink := rfl
@[simp] theorem setParser_gates (p : Station) (q : Parser) : (setParser p q s).gates = s.gates := rfl
@[simp] theorem setParser_link (p : Station) (q : Parser) : (setParser p q s).link = s.link := rfl
@[simp] theorem setParser_port (p : Station) (q : Parser) : (setParser p q s).port = s.port := rfl
@[simp] theorem setParser_freeCtr (p : Station) (q : Parser) : (setParser p q s).freeCtr = s.freeCtr := rfl
@[simp] theorem setParser_pending (p : Station) (q : Parser) : (setParser p q s).pending = s.pending := rfl
@[simp] theorem setParser_ingest_grant (p : Station) (q : Parser) : (setParser p q s).ingest.grant = s.ingest.grant := rfl
@[simp] theorem setParser_ingest_pointer (p : Station) (q : Parser) : (setParser p q s).ingest.pointer = s.ingest.pointer := rfl

/-! ## `updGate` -/

@[simp] theorem updGate_pos (g : Gate) (f : GateState → GateState) : (updGate g f s).pos = s.pos := by cases g <;> rfl
@[simp] theorem updGate_queue (g : Gate) (f : GateState → GateState) : (updGate g f s).queue = s.queue := by cases g <;> rfl
@[simp] theorem updGate_plans (g : Gate) (f : GateState → GateState) : (updGate g f s).plans = s.plans := by cases g <;> rfl
@[simp] theorem updGate_trig (g : Gate) (f : GateState → GateState) : (updGate g f s).trig = s.trig := by cases g <;> rfl
@[simp] theorem updGate_ingest (g : Gate) (f : GateState → GateState) : (updGate g f s).ingest = s.ingest := by cases g <;> rfl
@[simp] theorem updGate_store (g : Gate) (f : GateState → GateState) : (updGate g f s).store = s.store := by cases g <;> rfl
@[simp] theorem updGate_uplink (g : Gate) (f : GateState → GateState) : (updGate g f s).uplink = s.uplink := by cases g <;> rfl
@[simp] theorem updGate_link (g : Gate) (f : GateState → GateState) : (updGate g f s).link = s.link := by cases g <;> rfl
@[simp] theorem updGate_port (g : Gate) (f : GateState → GateState) : (updGate g f s).port = s.port := by cases g <;> rfl
@[simp] theorem updGate_freeCtr (g : Gate) (f : GateState → GateState) : (updGate g f s).freeCtr = s.freeCtr := by cases g <;> rfl
@[simp] theorem updGate_pending (g : Gate) (f : GateState → GateState) : (updGate g f s).pending = s.pending := by cases g <;> rfl
@[simp] theorem updGate_gates_lamp (g : Gate) (f : GateState → GateState) : (updGate g f s).gates.lamp = s.gates.lamp := by cases g <;> rfl

/-! ## `sendSegment` -/

@[simp] theorem sendSegment_pos (g : Segment) : (sendSegment g s).pos = s.pos := rfl
@[simp] theorem sendSegment_queue (g : Segment) : (sendSegment g s).queue = s.queue := rfl
@[simp] theorem sendSegment_plans (g : Segment) : (sendSegment g s).plans = s.plans := rfl
@[simp] theorem sendSegment_trig (g : Segment) : (sendSegment g s).trig = s.trig := rfl
@[simp] theorem sendSegment_ingest (g : Segment) : (sendSegment g s).ingest = s.ingest := rfl
@[simp] theorem sendSegment_store (g : Segment) : (sendSegment g s).store = s.store := rfl
@[simp] theorem sendSegment_gates (g : Segment) : (sendSegment g s).gates = s.gates := rfl
@[simp] theorem sendSegment_link (g : Segment) : (sendSegment g s).link = s.link := rfl
@[simp] theorem sendSegment_port (g : Segment) : (sendSegment g s).port = s.port := rfl
@[simp] theorem sendSegment_freeCtr (g : Segment) : (sendSegment g s).freeCtr = s.freeCtr := rfl
@[simp] theorem sendSegment_pending (g : Segment) : (sendSegment g s).pending = s.pending := rfl
@[simp] theorem sendSegment_uplink_deadline (g : Segment) : (sendSegment g s).uplink.deadline = s.uplink.deadline := rfl
@[simp] theorem sendSegment_uplink_region (g : Segment) : (sendSegment g s).uplink.region = s.uplink.region := rfl
@[simp] theorem sendSegment_uplink_background (g : Segment) : (sendSegment g s).uplink.background = s.uplink.background := rfl
@[simp] theorem sendSegment_uplink_clearAborts (g : Segment) : (sendSegment g s).uplink.clearAborts = s.uplink.clearAborts := rfl
@[simp] theorem sendSegment_uplink_replies (g : Segment) : (sendSegment g s).uplink.replies = s.uplink.replies := rfl
@[simp] theorem sendSegment_uplink_reports (g : Segment) : (sendSegment g s).uplink.reports = s.uplink.reports := rfl
@[simp] theorem sendSegment_uplink_regions (g : Segment) : (sendSegment g s).uplink.regions = s.uplink.regions := rfl
@[simp] theorem sendSegment_uplink_bgOrder (g : Segment) : (sendSegment g s).uplink.bgOrder = s.uplink.bgOrder := rfl

/-! ## `offerReport` -/

@[simp] theorem offerReport_pos (r : Report) : (offerReport r s).pos = s.pos := by unfold offerReport; split <;> rfl
@[simp] theorem offerReport_queue (r : Report) : (offerReport r s).queue = s.queue := by unfold offerReport; split <;> rfl
@[simp] theorem offerReport_plans (r : Report) : (offerReport r s).plans = s.plans := by unfold offerReport; split <;> rfl
@[simp] theorem offerReport_trig (r : Report) : (offerReport r s).trig = s.trig := by unfold offerReport; split <;> rfl
@[simp] theorem offerReport_ingest (r : Report) : (offerReport r s).ingest = s.ingest := by unfold offerReport; split <;> rfl
@[simp] theorem offerReport_store (r : Report) : (offerReport r s).store = s.store := by unfold offerReport; split <;> rfl
@[simp] theorem offerReport_gates (r : Report) : (offerReport r s).gates = s.gates := by unfold offerReport; split <;> rfl
@[simp] theorem offerReport_link (r : Report) : (offerReport r s).link = s.link := by unfold offerReport; split <;> rfl
@[simp] theorem offerReport_freeCtr (r : Report) : (offerReport r s).freeCtr = s.freeCtr := by unfold offerReport; split <;> rfl
@[simp] theorem offerReport_pending (r : Report) : (offerReport r s).pending = s.pending := by unfold offerReport; split <;> rfl
@[simp] theorem offerReport_port_mode (r : Report) : (offerReport r s).port.mode = s.port.mode := by unfold offerReport; split <;> rfl
@[simp] theorem offerReport_port_settings (r : Report) : (offerReport r s).port.settings = s.port.settings := by unfold offerReport; split <;> rfl
@[simp] theorem offerReport_port_enables (r : Report) : (offerReport r s).port.enables = s.port.enables := by unfold offerReport; split <;> rfl
@[simp] theorem offerReport_port_buffer (r : Report) : (offerReport r s).port.buffer = s.port.buffer := by unfold offerReport; split <;> rfl
@[simp] theorem offerReport_port_refused (r : Report) : (offerReport r s).port.refused = s.port.refused := by unfold offerReport; split <;> rfl
@[simp] theorem offerReport_port_resetSeen (r : Report) : (offerReport r s).port.resetSeen = s.port.resetSeen := by unfold offerReport; split <;> rfl
@[simp] theorem offerReport_port_spiOut (r : Report) : (offerReport r s).port.spiOut = s.port.spiOut := by unfold offerReport; split <;> rfl
@[simp] theorem offerReport_port_bus (r : Report) : (offerReport r s).port.bus = s.port.bus := by unfold offerReport; split <;> rfl

/-! ## `offerReply` -/

@[simp] theorem offerReply_pos (r : Reply) : (offerReply r s).pos = s.pos := by unfold offerReply; split <;> rfl
@[simp] theorem offerReply_queue (r : Reply) : (offerReply r s).queue = s.queue := by unfold offerReply; split <;> rfl
@[simp] theorem offerReply_plans (r : Reply) : (offerReply r s).plans = s.plans := by unfold offerReply; split <;> rfl
@[simp] theorem offerReply_trig (r : Reply) : (offerReply r s).trig = s.trig := by unfold offerReply; split <;> rfl
@[simp] theorem offerReply_ingest (r : Reply) : (offerReply r s).ingest = s.ingest := by unfold offerReply; split <;> rfl
@[simp] theorem offerReply_store (r : Reply) : (offerReply r s).store = s.store := by unfold offerReply; split <;> rfl
@[simp] theorem offerReply_gates (r : Reply) : (offerReply r s).gates = s.gates := by unfold offerReply; split <;> rfl
@[simp] theorem offerReply_link (r : Reply) : (offerReply r s).link = s.link := by unfold offerReply; split <;> rfl
@[simp] theorem offerReply_port (r : Reply) : (offerReply r s).port = s.port := by unfold offerReply; split <;> rfl
@[simp] theorem offerReply_freeCtr (r : Reply) : (offerReply r s).freeCtr = s.freeCtr := by unfold offerReply; split <;> rfl
@[simp] theorem offerReply_pending (r : Reply) : (offerReply r s).pending = s.pending := by unfold offerReply; split <;> rfl

/-! ## `followLamp` -/

@[simp] theorem followLamp_pos : (followLamp s).pos = s.pos := by unfold followLamp; split <;> rfl
@[simp] theorem followLamp_queue : (followLamp s).queue = s.queue := by unfold followLamp; split <;> rfl
@[simp] theorem followLamp_plans : (followLamp s).plans = s.plans := by unfold followLamp; split <;> rfl
@[simp] theorem followLamp_trig : (followLamp s).trig = s.trig := by unfold followLamp; split <;> rfl
@[simp] theorem followLamp_ingest : (followLamp s).ingest = s.ingest := by unfold followLamp; split <;> rfl
@[simp] theorem followLamp_store : (followLamp s).store = s.store := by unfold followLamp; split <;> rfl
@[simp] theorem followLamp_uplink : (followLamp s).uplink = s.uplink := by unfold followLamp; split <;> rfl
@[simp] theorem followLamp_link : (followLamp s).link = s.link := by unfold followLamp; split <;> rfl
@[simp] theorem followLamp_port : (followLamp s).port = s.port := by unfold followLamp; split <;> rfl
@[simp] theorem followLamp_freeCtr : (followLamp s).freeCtr = s.freeCtr := by unfold followLamp; split <;> rfl
@[simp] theorem followLamp_pending : (followLamp s).pending = s.pending := by unfold followLamp; split <;> rfl
@[simp] theorem followLamp_gates_reject : (followLamp s).gates.reject = s.gates.reject := by unfold followLamp; split <;> rfl
@[simp] theorem followLamp_gates_rework : (followLamp s).gates.rework = s.gates.rework := by unfold followLamp; split <;> rfl

/-! ## `sendZeros` -/

@[simp] theorem sendZeros_pos (n : Nat) : (sendZeros n s).pos = s.pos := rfl
@[simp] theorem sendZeros_queue (n : Nat) : (sendZeros n s).queue = s.queue := rfl
@[simp] theorem sendZeros_plans (n : Nat) : (sendZeros n s).plans = s.plans := rfl
@[simp] theorem sendZeros_trig (n : Nat) : (sendZeros n s).trig = s.trig := rfl
@[simp] theorem sendZeros_ingest (n : Nat) : (sendZeros n s).ingest = s.ingest := rfl
@[simp] theorem sendZeros_store (n : Nat) : (sendZeros n s).store = s.store := rfl
@[simp] theorem sendZeros_uplink (n : Nat) : (sendZeros n s).uplink = s.uplink := rfl
@[simp] theorem sendZeros_gates (n : Nat) : (sendZeros n s).gates = s.gates := rfl
@[simp] theorem sendZeros_link (n : Nat) : (sendZeros n s).link = s.link := rfl
@[simp] theorem sendZeros_freeCtr (n : Nat) : (sendZeros n s).freeCtr = s.freeCtr := rfl
@[simp] theorem sendZeros_pending (n : Nat) : (sendZeros n s).pending = s.pending := rfl
@[simp] theorem sendZeros_port_mode (n : Nat) : (sendZeros n s).port.mode = s.port.mode := rfl
@[simp] theorem sendZeros_port_settings (n : Nat) : (sendZeros n s).port.settings = s.port.settings := rfl
@[simp] theorem sendZeros_port_flags (n : Nat) : (sendZeros n s).port.flags = s.port.flags := rfl
@[simp] theorem sendZeros_port_enables (n : Nat) : (sendZeros n s).port.enables = s.port.enables := rfl
@[simp] theorem sendZeros_port_counts (n : Nat) : (sendZeros n s).port.counts = s.port.counts := rfl
@[simp] theorem sendZeros_port_buffer (n : Nat) : (sendZeros n s).port.buffer = s.port.buffer := rfl
@[simp] theorem sendZeros_port_refused (n : Nat) : (sendZeros n s).port.refused = s.port.refused := rfl
@[simp] theorem sendZeros_port_resetSeen (n : Nat) : (sendZeros n s).port.resetSeen = s.port.resetSeen := rfl
@[simp] theorem sendZeros_port_bus (n : Nat) : (sendZeros n s).port.bus = .idle := rfl
@[simp] theorem sendZeros_port_spiOut (n : Nat) : (sendZeros n s).port.spiOut = zeros n := rfl

/-! ## `sendByte` -/

@[simp] theorem sendByte_pos (b : Byte) (q : BusState) : (sendByte b q s).pos = s.pos := rfl
@[simp] theorem sendByte_queue (b : Byte) (q : BusState) : (sendByte b q s).queue = s.queue := rfl
@[simp] theorem sendByte_plans (b : Byte) (q : BusState) : (sendByte b q s).plans = s.plans := rfl
@[simp] theorem sendByte_trig (b : Byte) (q : BusState) : (sendByte b q s).trig = s.trig := rfl
@[simp] theorem sendByte_ingest (b : Byte) (q : BusState) : (sendByte b q s).ingest = s.ingest := rfl
@[simp] theorem sendByte_store (b : Byte) (q : BusState) : (sendByte b q s).store = s.store := rfl
@[simp] theorem sendByte_uplink (b : Byte) (q : BusState) : (sendByte b q s).uplink = s.uplink := rfl
@[simp] theorem sendByte_gates (b : Byte) (q : BusState) : (sendByte b q s).gates = s.gates := rfl
@[simp] theorem sendByte_link (b : Byte) (q : BusState) : (sendByte b q s).link = s.link := rfl
@[simp] theorem sendByte_freeCtr (b : Byte) (q : BusState) : (sendByte b q s).freeCtr = s.freeCtr := rfl
@[simp] theorem sendByte_pending (b : Byte) (q : BusState) : (sendByte b q s).pending = s.pending := rfl
@[simp] theorem sendByte_port_mode (b : Byte) (q : BusState) : (sendByte b q s).port.mode = s.port.mode := rfl
@[simp] theorem sendByte_port_settings (b : Byte) (q : BusState) : (sendByte b q s).port.settings = s.port.settings := rfl
@[simp] theorem sendByte_port_flags (b : Byte) (q : BusState) : (sendByte b q s).port.flags = s.port.flags := rfl
@[simp] theorem sendByte_port_enables (b : Byte) (q : BusState) : (sendByte b q s).port.enables = s.port.enables := rfl
@[simp] theorem sendByte_port_counts (b : Byte) (q : BusState) : (sendByte b q s).port.counts = s.port.counts := rfl
@[simp] theorem sendByte_port_buffer (b : Byte) (q : BusState) : (sendByte b q s).port.buffer = s.port.buffer := rfl
@[simp] theorem sendByte_port_refused (b : Byte) (q : BusState) : (sendByte b q s).port.refused = s.port.refused := rfl
@[simp] theorem sendByte_port_resetSeen (b : Byte) (q : BusState) : (sendByte b q s).port.resetSeen = s.port.resetSeen := rfl
@[simp] theorem sendByte_port_bus (b : Byte) (q : BusState) : (sendByte b q s).port.bus = q := rfl
@[simp] theorem sendByte_port_spiOut (b : Byte) (q : BusState) : (sendByte b q s).port.spiOut = s.port.spiOut ++ [b] := rfl

/-! ## `countPosition` -/

@[simp] theorem countPosition_queue (d : Direction) : (countPosition d s).queue = s.queue := rfl
@[simp] theorem countPosition_plans (d : Direction) : (countPosition d s).plans = s.plans := rfl
@[simp] theorem countPosition_trig (d : Direction) : (countPosition d s).trig = s.trig := rfl
@[simp] theorem countPosition_ingest (d : Direction) : (countPosition d s).ingest = s.ingest := rfl
@[simp] theorem countPosition_store (d : Direction) : (countPosition d s).store = s.store := rfl
@[simp] theorem countPosition_uplink (d : Direction) : (countPosition d s).uplink = s.uplink := rfl
@[simp] theorem countPosition_gates (d : Direction) : (countPosition d s).gates = s.gates := rfl
@[simp] theorem countPosition_link (d : Direction) : (countPosition d s).link = s.link := rfl
@[simp] theorem countPosition_port (d : Direction) : (countPosition d s).port = s.port := rfl
@[simp] theorem countPosition_freeCtr (d : Direction) : (countPosition d s).freeCtr = s.freeCtr := rfl
@[simp] theorem countPosition_pending (d : Direction) : (countPosition d s).pending = s.pending := rfl
@[simp] theorem countPosition_pos_residue (d : Direction) : (countPosition d s).pos.residue = s.pos.residue := rfl
@[simp] theorem countPosition_pos_time (d : Direction) : (countPosition d s).pos.time = s.pos.time := rfl
@[simp] theorem countPosition_pos_speed (d : Direction) : (countPosition d s).pos.speed = s.pos.speed := rfl

/-! ## Reading back what an update has written -/

@[simp] theorem onEach_eq_map {α β : Type} (f : α → β) (v : Vector α 8) : onEach f v = v.map f := by
  ext k
  simp [onEach]

@[simp] theorem frameOf_setFrame_same (id : FrameId) (r : FrameRecord) : frameOf id (setFrame id r s) = r := by
  simp [frameOf, setFrame]

theorem frameOf_setFrame_other {id k : FrameId} (r : FrameRecord) (h : k ≠ id) : frameOf k (setFrame id r s) = frameOf k s := by
  have : id.val ≠ k.val := fun e => h (Fin.ext e.symm)
  simp [frameOf, setFrame, this]

@[simp] theorem bankOf_updBank_same (n : BankName) (f : PlanBank → PlanBank) : bankOf n (updBank n f s) = f (bankOf n s) := by
  cases n <;> rfl

@[simp] theorem bankOf_updBank_other (n : BankName) (f : PlanBank → PlanBank) : bankOf n.other (updBank n f s) = bankOf n.other s := by
  cases n <;> rfl

@[simp] theorem gateOf_updGate_same (g : Gate) (f : GateState → GateState) : gateOf g (updGate g f s) = f (gateOf g s) := by
  cases g <;> rfl

theorem gateOf_updGate_other {g h : Gate} (f : GateState → GateState) (n : h ≠ g) : gateOf h (updGate g f s) = gateOf h s := by
  cases g <;> cases h <;> first | rfl | exact absurd rfl n

@[simp] theorem trig_updTrig_same (st : Station) (f : StationTriggers → StationTriggers) :
    (updTrig st f s).trig[st] = f s.trig[st] := by
  simp [updTrig]

theorem trig_updTrig_other {st k : Station} (f : StationTriggers → StationTriggers) (h : k ≠ st) :
    (updTrig st f s).trig[k] = s.trig[k] := by
  have : st.val ≠ k.val := fun e => h (Fin.ext e.symm)
  simp [updTrig, this]

@[simp] theorem ports_updPort_same (p : Station) (f : Port → Port) : (updPort p f s).ingest.ports[p] = f s.ingest.ports[p] := by
  simp [updPort]

theorem ports_updPort_other {p k : Station} (f : Port → Port) (h : k ≠ p) :
    (updPort p f s).ingest.ports[k] = s.ingest.ports[k] := by
  have : p.val ≠ k.val := fun e => h (Fin.ext e.symm)
  simp [updPort, this]

@[simp] theorem countOf_bump_same (c : Count) : countOf c (bump c s) = countUp (countOf c s) := by
  simp [countOf, bump]

theorem countOf_bump_other {c d : Count} (h : d.place ≠ c.place) : countOf d (bump c s) = countOf d s := by
  have : c.place.val ≠ d.place.val := fun e => h (Fin.ext e.symm)
  simp [countOf, bump, this]

/-- A count goes up by one and stops at 65,535 (R185). -/
theorem countUp_toNat (v : Word16) : (countUp v).toNat = min 65535 (v.toNat + 1) := by
  unfold countUp
  split
  · simp_all
  · rename_i h
    have : v.toNat ≠ 65535 := fun e => h (BitVec.eq_of_toNat_eq (by simpa using e))
    have := v.isLt
    have : (1 : Word16).toNat = 1 := rfl
    simp only [BitVec.toNat_add]
    omega

end Sys2Proof.Machine
end

