-- ==== Sys2Proof/Laws/Ops.lean ====
section
/-! SUPPORT. What each shared operation can do, said once. -/

namespace Sys2Proof.Machine

open Sys2Proof.Safety

variable (s : State)

/-! ## Frame records -/

/-- A record that frees goes to the tail of the free list with its blocks, in block-list order (R106). -/
theorem freeFrame_freeList (id : FrameId) : (freeFrame id s).store.freeList = s.store.freeList ++ (frameOf id s).blocks :=
  rfl

@[simp] theorem frameOf_freeFrame_same (id : FrameId) : frameOf id (freeFrame id s) = FrameRecord.freed := by
  simp [frameOf, freeFrame]

theorem frameOf_freeFrame_other {id k : FrameId} (h : k ≠ id) : frameOf k (freeFrame id s) = frameOf k s := by
  have : id.val ≠ k.val := fun e => h (Fin.ext e.symm)
  simp [frameOf, freeFrame, this]

/-- Settling frees a record that meets the test of R112, and changes no record otherwise. -/
theorem frameOf_settleFrame_same (id : FrameId) :
    frameOf id (settleFrame id s) = if (frameOf id s).freeable then FrameRecord.freed else frameOf id s := by
  unfold settleFrame
  split
  · simp
  · rfl

theorem frameOf_settleFrame_other {id k : FrameId} (h : k ≠ id) : frameOf k (settleFrame id s) = frameOf k s := by
  unfold settleFrame
  split
  · exact frameOf_freeFrame_other s h
  · rfl

/-- A changed record takes its new value, or is freed where that value meets the test of R112. -/
theorem frameOf_updFrame_same (id : FrameId) (f : FrameRecord → FrameRecord) :
    frameOf id (updFrame id f s) = if (f (frameOf id s)).freeable then FrameRecord.freed else f (frameOf id s) := by
  simp [updFrame, frameOf_settleFrame_same]

theorem frameOf_updFrame_other {id k : FrameId} (f : FrameRecord → FrameRecord) (h : k ≠ id) :
    frameOf k (updFrame id f s) = frameOf k s := by
  rw [updFrame, frameOf_settleFrame_other _ h, frameOf_setFrame_other _ _ h]

theorem mem_without {id k : FrameId} {l : List FrameId} : k ∈ without id l ↔ k ∈ l ∧ k ≠ id := by
  simp [without]

theorem mem_joined {id k : FrameId} {l : List FrameId} : k ∈ joined id l ↔ k ∈ l ∨ k = id := by
  unfold joined
  split
  · constructor
    · exact Or.inl
    · rintro (h | rfl) <;> assumption
  · simp

/-- A record that can be freed is not evictable: its class is DONE, not BACKGROUND. -/
theorem FrameRecord.not_evictable_of_freeable {r : FrameRecord} (h : r.freeable = true) : r.evictable = false := by
  simp only [FrameRecord.freeable, Bool.and_eq_true, beq_iff_eq] at h
  simp [FrameRecord.evictable, h.1.1.1.2]

/-- After settling, a record stands on the reclaim list exactly where it is evictable (R116); others stand as before. -/
theorem mem_reclaim_settleFrame (id k : FrameId) :
    k ∈ (settleFrame id s).store.reclaim ↔ if k = id then (frameOf id s).evictable = true else k ∈ s.store.reclaim := by
  unfold settleFrame
  split
  · rename_i h
    have := FrameRecord.not_evictable_of_freeable h
    by_cases hk : k = id <;> simp [freeFrame, mem_without, hk, this]
  · by_cases hk : k = id
    · subst hk
      simp only [if_true]
      split <;> simp_all [mem_without, mem_joined]
    · simp only [if_neg hk]
      split <;> simp [mem_without, mem_joined, hk]

/-- After settling, a record stands in the background order exactly where it is READY of class BACKGROUND (R136). -/
theorem mem_bgOrder_settleFrame (id k : FrameId) :
    k ∈ (settleFrame id s).uplink.bgOrder ↔
      if k = id then (frameOf id s).waitsInBackground = true else k ∈ s.uplink.bgOrder := by
  unfold settleFrame
  split
  · rename_i h
    have : (frameOf id s).waitsInBackground = false := by
      simp only [FrameRecord.freeable, Bool.and_eq_true, beq_iff_eq] at h
      simp [FrameRecord.waitsInBackground, h.1.1.1.2]
    by_cases hk : k = id <;> simp [freeFrame, mem_without, hk, this]
  · by_cases hk : k = id
    · subst hk
      simp only [if_true]
      split <;> simp_all [mem_without, mem_joined]
    · simp only [if_neg hk]
      split <;> simp [mem_without, mem_joined, hk]

/-- Eviction frees the head of the reclaim list and counts it, and fails exactly where that list is empty (R117). -/
theorem evictHead?_eq : evictHead? s = s.store.reclaim.head?.map fun id => bump .evictedFrames (freeFrame id s) := by
  unfold evictHead?
  cases s.store.reclaim <;> rfl

/-- A matched header takes the lowest FREE record where there is one (R90). -/
theorem takeRecord_of_free {id : FrameId} (h : lowestFree s = some id) : takeRecord s = some (id, s) := by
  simp [takeRecord, h]

/-- A changed record is settled: it is freed or kept, and the free list, the reclaim list and the background order follow
(R106, R112, R116, R136). -/
theorem updFrame_eq (id : FrameId) (f : FrameRecord → FrameRecord) :
    updFrame id f s = withFrame id (f (frameOf id s)) s := by
  generalize hr : f (frameOf id s) = r
  have same : frameOf id (setFrame id r s) = r := by simp [frameOf, setFrame]
  unfold updFrame settleFrame withFrame settled relisted
  rw [hr, same]
  by_cases h : unheld r
  · obtain ⟨h1, h2, h3, h4, h5⟩ := h
    have hf : r.freeable = true := by simp [FrameRecord.freeable, h1, h2, h3, h4, h5]
    rw [if_pos hf, freeFrame, same]
    simp [h1, h2, h3, h4, h5, unheld, without, setFrame]
  · have hf : r.freeable = false := by
      simpa [FrameRecord.freeable, unheld, and_assoc] using h
    have he : r.evictable = decide (r.state = .ready ∧ r.cls = .background ∧ r.k0 = false ∧ r.k1 = false ∧ r.openTx = 0) := by
      rw [Bool.eq_iff_iff]
      simp [FrameRecord.evictable, and_assoc]
    have hw : r.waitsInBackground = decide (r.state = .ready ∧ r.cls = .background) := by
      rw [Bool.eq_iff_iff]
      simp [FrameRecord.waitsInBackground]
    simp only [hf, he, hw, if_neg h, Bool.false_eq_true, if_false, without, joined, setFrame]
    rfl

/-! ## Queues of messages -/

/-- A reply offered joins the reply queue as R141 says. -/
theorem offerReply_eq (r : Reply) : offerReply r s = { s with uplink.replies := joinReplies r s.uplink.replies } := by
  unfold offerReply joinReplies Config.replyQueueCapacity
  by_cases h : 16 ≤ s.uplink.replies.length
  · simp [h, Nat.not_lt.mpr h]
  · simp [h, Nat.lt_of_not_le h]

/-- A report offered joins the report queue as R140 says. -/
theorem offerReport_reports (r : Report) : (offerReport r s).uplink.reports = joinReports r s.uplink.reports := by
  unfold offerReport joinReports Config.reportQueueCapacity
  by_cases h : 64 ≤ s.uplink.reports.length
  · simp [h, Nat.not_lt.mpr h, raise, bump]
  · simp [h, Nat.lt_of_not_le h]

/-- A report offered to a queue with room changes nothing but that queue. -/
theorem offerReport_of_room {r : Report} (h : s.uplink.reports.length < 64) :
    offerReport r s = { s with uplink.reports := s.uplink.reports ++ [r] } := by
  simp [offerReport, Config.reportQueueCapacity, Nat.not_le.mpr h]

/-! ## Blocks and requests -/

/-- A count rises by one and stays at 65,535 (R185). -/
theorem countUp_eq (v : Word16) : countUp v = oneMore v := by
  unfold countUp oneMore
  by_cases h : v = 0xFFFF#16
  · subst h
    rfl
  · have : v.toNat < 65535 := by
      have := v.isLt
      have : v.toNat ≠ 65535 := fun e => h (BitVec.eq_of_toNat_eq e)
      omega
    rw [if_neg h, if_pos this]

/-- A bad block, in the words of R161 and R162. -/
theorem badBlock_eq (r : Receiver) : badBlock r s = badBlockSeen r s := by
  unfold badBlock badBlockSeen
  cases h : s.link.state <;> (simp only [bump, countUp_eq, h, reduceCtorEq, if_true, if_false]; rfl)

/-- The start of a whole block, where no partial block waits, takes the receiver to COLLECT and does nothing else (R160). -/
theorem beginBlock_of_noPartial (h : noPartial s) : beginBlock s = { s with link.receiver := .collect [] } := by
  unfold beginBlock blockStart
  cases e : s.link.receiver with
  | hunt => rfl
  | collect l =>
    cases l with
    | nil =>
      cases s with
      | mk pos queue plans trig ingest store uplink gates link port freeCtr pending =>
        cases link
        cases e
        rfl
    | cons b l => exact absurd e (h b l)

/-- A good block leaves the receiver in HUNT, wherever it was (R160). -/
theorem goodBlock_receiver (owner : State → State) (r : Receiver) :
    goodBlock owner { s with link.receiver := r } = goodBlock owner s :=
  rfl

/-- A good block in UP is heard and handed to its owner (R163, R167). -/
theorem goodBlock_up (owner : State → State) (h : s.link.state = .up) : goodBlock owner s = owner (heard s) := by
  unfold goodBlock
  rw [h]
  rfl

/-- A good block in ALIGNING reaches no owner (R162). -/
theorem goodBlock_aligning (owner : State → State) (h : s.link.state = .aligning) :
    goodBlock owner s = goodInAligning { s with link.receiver := .hunt } := by
  simp only [goodBlock, h]

/-- An answered block puts one reply at the tail of the reply queue (R167, R168). -/
theorem dispatch_eq (kind number : Byte) (owner : State → State × Result × List Byte) :
    dispatch kind number owner s =
      offerReply { kind := kind, number := number, result := (owner s).2.1, body := (owner s).2.2 } (owner s).1 :=
  rfl

/-- A request that ends while BUSY sets REFUSED and nothing else, but for the model's record of the zeros sent (R176). -/
theorem takeRequest_of_busy (r : LineRequest) (h : busy s = true) :
    takeRequest r s = { s with port.refused := true, port.bus := .idle, port.spiOut := zeros r.transaction.length } := by
  simp [takeRequest, h, refuseWrite, sendZeros]

/-- A request taken is answered and its answer held (R176, R177). -/
theorem takeRequest_of_free (r : LineRequest) (h : busy s = false) :
    takeRequest r s = holdAnswer r.code (answerTaken r (sendZeros r.transaction.length s)) := by
  simp [takeRequest, h]

/-- What a READ RESPONSE has settled with its status byte (R175): the zeros that follow BUSY, or the response held. -/
theorem shiftByte_of_reading (b : Byte) (h : s.port.bus = .reading) :
    shiftByte b s =
      { sendByte (statusByte s) (.sending (busy s) (responseBytes s)) s with port.refused := false } := by
  simp only [shiftByte, h]

/-- The release of chip select hands the request buffer to R176 and does nothing else (R175). -/
theorem releaseSelect_of_writing (l : List Byte) (h : s.port.bus = .writing l) : releaseSelect s = transaction l s := by
  simp only [releaseSelect, h]

/-- The release of chip select in a READ RESPONSE, or before the first byte, ends the transaction and does nothing else (R175). -/
theorem releaseSelect_of_not_writing (h : ∀ l, s.port.bus ≠ .writing l) : releaseSelect s = { s with port.bus := .idle } := by
  unfold releaseSelect
  cases e : s.port.bus with
  | idle =>
    cases s with
    | mk pos queue plans trig ingest store uplink gates link port freeCtr pending =>
      cases port
      cases e
      rfl
  | begun => rfl
  | writing l => exact absurd e (h l)
  | reading => rfl
  | sending z r => rfl

/-! ## Retirement -/

/-- Where the head's exit is not reached the Item Queue leaves the queue as it is (R16). -/
theorem examineHead_of_headStays (h : headStays s) : examineHead s = s := by
  unfold examineHead
  cases hq : s.queue.items with
  | nil => rfl
  | cons i rest =>
    have hi := h i (by simp [hq])
    have : mayRetire i s = false := by
      have : positionReached (pointAt i.entry (planOf i.bank s).exit) s = false := decide_eq_false hi
      simp [mayRetire, this]
    simp [examineHeads, hq, this]

/-! ## A pick that takes nothing -/

@[simp] theorem allShed_uplink : (allShed s).uplink = s.uplink := by
  unfold allShed
  rfl

@[simp] theorem allShed_link : (allShed s).link = s.link := by
  unfold allShed
  rfl

@[simp] theorem allShed_freeList : (allShed s).store.freeList = s.store.freeList := by
  unfold allShed
  rfl

@[simp] theorem allShed_mem : (allShed s).store.mem = s.store.mem := by
  unfold allShed
  rfl

/-- A pick that takes nothing changes a record only by shedding it, and only one that it looked at (R127). -/
theorem frameOf_allShed (id : FrameId) :
    frameOf id (allShed s) = if lookedAt id s then { frameOf id s with shed := true, shedNote := true } else frameOf id s := by
  simp [frameOf, allShed]

/-! ## Leaving RUN -/

/-- A record whose triggers are not queued is as it was after the removal (R82). -/
theorem withoutQueued_of_none (j : Item) (h : ∀ (st : Station), ∀ e ∈ s.trig[st].queue, ¬ (e.tag = j.tag ∧ e.bank = j.bank)) :
    withoutQueued s j = j := by
  have none : ∀ st : Station, (s.trig[st].queue.any fun e => e.tag == j.tag && e.bank == j.bank) = false := fun st => by
    simpa [List.any_eq_false] using h st
  unfold withoutQueued
  simp only [none]
  simp

end Sys2Proof.Machine
end

