-- ==== Sys2Proof/Tests/Slice0.lean ====
section
/-! SUPPORT. Tests of the model: the smoke of `WellFormed`, the manual's worked examples, and for every obligation with
hypotheses the states and operands that meet them. -/

namespace Sys2Proof.Tests

open Sys2Proof.Machine Sys2Proof.Safety

/-! ## Small states -/

/-- The state that a command answers. -/
def result (o : Host.Outcome State Fault Refusal) : State :=
  match o with
  | .next t => t
  | .fault _ => State.reset
  | .refused _ => State.reset

/-- A plan that meets R45: station 0 at 20, decision at 80, gates at 90 and 100, fire width 10, exit at 120. -/
def plan : Plan :=
  { stations := #v[{ enable := true, strobe := false, offset := 20, exposure := 40 },
      { enable := false, strobe := false, offset := 0, exposure := 0 }, { enable := false, strobe := false, offset := 0, exposure := 0 },
      { enable := false, strobe := false, offset := 0, exposure := 0 }, { enable := false, strobe := false, offset := 0, exposure := 0 },
      { enable := false, strobe := false, offset := 0, exposure := 0 }, { enable := false, strobe := false, offset := 0, exposure := 0 },
      { enable := false, strobe := false, offset := 0, exposure := 0 }]
    decision := 80, rejectGate := 90, reworkGate := 100, width := 10, exit := 120 }

/-- A line in RUN with the link UP and bank A active. -/
def line : State :=
  { State.reset with
    port.mode := .run
    plans.a := { plan := plan, valid := true, inUse := 0 }
    link.state := .up
    link.goodRun := 4
    link.lossTimer := some 1000000
    gates.lamp := { state := .on, output := true, toggleAt := 0 } }

/-- The item with tag 0 that entered at position 0, in a phase and with an outcome at station 0. -/
def item (p : Phase) (o : StationOutcome) : Item :=
  { tag := 0, bank := .a, entry := 0, phase := p, verdict := none, force := none, decision := none, gateOutcome := .none
    stations := #v[o, .disabled, .disabled, .disabled, .disabled, .disabled, .disabled, .disabled] }

/-- The line with one item on the belt, the position count standing at `x`. -/
def carrying (i : Item) (x : Word32) : State :=
  { line with
    queue := { items := [i], nextTag := 1 }
    plans.a := { plan := plan, valid := true, inUse := 1 }
    pos.position := x }

/-- The line with the item above. -/
def oneItem (p : Phase) (o : StationOutcome) (x : Word32) : State :=
  carrying (item p o) x

/-- A record of station 0 that holds block 0. -/
def record (q : FrameState) (c : FrameClass) : FrameRecord :=
  { FrameRecord.freed with state := q, cls := c, width := 2, height := 1, depth := 8, payload := 2, blocks := [0] }

/-- The item at station 0 with frame 0 stored. -/
def oneFrame (r : FrameRecord) : State :=
  { oneItem .complete (.frame 0) 30 with
    store.freeList := fullFreeList.tail
    store.frames := State.reset.store.frames.set 0 r }

/-- Port 0 with a frame of two bytes open, `held` of it in its FIFO. -/
def openPort (q : Parser) (held : FifoFrame) : State :=
  { oneFrame { record .filling .none with payload := 0 } with
    ingest.ports := State.reset.ingest.ports.set 0 { parser := q, fifo := [held] } }

/-- The open frame of `openPort`, before its first byte. -/
def opened : OpenFrame :=
  { frame := 0, height := 1, expected := 2, received := 0, crc := crc32Start, atHeader := .waiting }

/-- The entry of frame 0 in a FIFO. -/
def held (bytes : List Byte) (marked : Bool) : FifoFrame :=
  { frame := 0, bytes := bytes, marked := marked, cut := false }

/-! ## WellFormed refuses an ill-formed term of each check -/

theorem test_configure_without_items_refused : (Instr.configure []).wellFormed = false := by decide

theorem test_configure_of_twenty_items_refused :
    (Instr.configure (List.replicate 20 { number := 0, value := 1 })).wellFormed = false := by decide

theorem test_known_kind_refused : (Instr.unknownRequestKind 6 0).wellFormed = false := by decide

theorem test_write_request_with_first_byte_0_refused : (Instr.writeRequest (.transaction [0, 1])).wellFormed = false := by decide

theorem test_write_request_with_a_row_refused : (Instr.writeRequest (.transaction [2, 1, 0])).wellFormed = false := by decide

/-! ## Worked examples of the manual -/

/-- 12.2, R189. -/
theorem test_trigger_word : triggerWord 517 .a false 40 = 0x814287#24 := by decide

set_option maxRecDepth 8000 in
/-- R191. -/
theorem test_crc16_of_the_digits : crc16 [0x31, 0x32, 0x33, 0x34, 0x35, 0x36, 0x37, 0x38, 0x39] = 0x29B1#16 := by decide

set_option maxRecDepth 8000 in
/-- R190. -/
theorem test_crc32_of_the_digits : crc32 [0x31, 0x32, 0x33, 0x34, 0x35, 0x36, 0x37, 0x38, 0x39] = 0x0376E6E7#32 := by decide

/-- R24: with p = 4 the fourth forward step makes a count. -/
theorem test_prescaler_forward : prescale 4 3 .forward = (0, some .forward) ∧ prescale 4 0 .forward = (1, none) := by decide

/-- R24: the fifth backward step of the run. -/
theorem test_prescaler_backward : prescale 4 (-3) .backward = (0, some .backward) ∧ prescale 4 1 .backward = (0, none) := by decide

/-- R23: both phases changed make no step. -/
theorem test_both_phases_make_no_step : decodeStep .normal false false true true = none := by decide

/-- R23: the forward order, and the exchange under inverted polarity. -/
theorem test_forward_step : decodeStep .normal false false true false = some .forward
    ∧ decodeStep .inverted false false true false = some .backward := by decide

/-- 2.6. -/
theorem test_speed_of_the_run : nextSpeed 0 2048 = 512 ∧ nextSpeed 512 2048 = 896 ∧ nextSpeed 1400 0 = 1050 ∧ nextSpeed 2000 2100 = 2025 := by
  decide

/-- 2.7: the ordinary case, saturation, a stopped belt, a belt behind the entry. -/
theorem test_time_to_point :
    timeToPoint 100000 90000 { State.reset with pos.position := 130000, pos.speed := 2048 } = 30000
      ∧ timeToPoint 100000 90000 { State.reset with pos.position := 130000, pos.speed := 3 } = 16777215
      ∧ timeToPoint 100000 90000 { State.reset with pos.position := 130000, pos.speed := 0 } = 16777215
      ∧ timeToPoint 100000 90000 { State.reset with pos.position := 95000, pos.speed := 2048 } = 47500 := by decide

/-- 2.7: the wrapped case. -/
theorem test_time_to_point_wrapped :
    timeToPoint 4294960000 40000 { State.reset with pos.position := 10000, pos.speed := 1184 } = 19635 := by decide

/-- 8.3: frame 210. -/
theorem test_copy_costs : (fun f => sendTime { FrameRecord.freed with width := 2448, height := 2048, depth := 8 } f 1200) 1 = 4195
    ∧ sendTime { FrameRecord.freed with width := 2448, height := 2048, depth := 8 } 2 1200 = 1049
    ∧ sendTime { FrameRecord.freed with width := 2448, height := 2048, depth := 8 } 4 1200 = 263 := by decide

/-- R129. -/
theorem test_averages : average 234 4 = 59 ∧ average 15 2 = 8 ∧ average 4095 1 = 4095 ∧ average 16015 16 = 1001 := by decide

/-- R6, R8: the first item takes tag 0, and its enabled station waits. -/
theorem test_sensor_creates_the_first_item : (result (exec .sensorRisingEdge line)).queue.items = [item .entered .waiting] := by decide

/-- R7: ANNOUNCE ITEM with the entry source SENSOR is WRONG_MODE. -/
theorem test_announce_wrong_mode : (result (exec (.announceItem 5) line)).port.buffer = .busy [8, 8] := by decide

/-- R12: a void of an ENTERED item answers with the phase it had. -/
theorem test_void_entered : (result (exec (.voidItem 0 0) (oneItem .entered .waiting 30))).port.buffer = .busy [9, 0, 0] := by decide

/-- R46: bank A after the reset pin has no station enabled. -/
theorem test_commit_of_the_empty_bank : (result (exec (.commitPlan 0) State.reset)).port.buffer = .busy [6, 10, 1, 0] := by decide

/-- R180: RUN is refused while the active bank is INVALID. -/
theorem test_run_without_a_plan : (result (exec (.setMode 0) State.reset)).port.buffer = .busy [2, 10, 2, 2] := by decide

/-- R178: after the reset pin the status byte shows RESET_SEEN alone, and a read finds a length of 0. -/
theorem test_first_read : (result (exec (.readResponse 3) State.reset)).port.spiOut = [0, 0x10, 0] := by decide

/-- R175: the release of chip select takes SET MODE HALT, which is refused with nothing else done: NOT_EMPTY, RUN, RUN. -/
theorem test_release_takes_the_request :
    (result (exec (.writeRequest .release) { oneItem .entered .waiting 20 with port.bus := .writing [2, 1, 2] })).port.buffer
      = .busy [2, 9, 0, 0] := by decide

/-- R175: the reset pin loses a transaction in progress, and the bytes that still come are ignored. -/
theorem test_reset_loses_the_transaction :
    (result (exec (.writeRequest (.busByte 1)) (result (exec (.resetPin { a := false, b := false, sensor := false, halt := false })
      { line with port.bus := .writing [2, 1] })))).port.bus = .idle := by decide

/-- R162: the fourth good block in a row makes the link UP. -/
theorem test_link_comes_up : (result (exec (.idleBlock 0) { State.reset with link.goodRun := 3 })).link.state = .up := by decide

/-- R73, R75: the trigger of station 0 starts on the free line. -/
theorem test_trigger_starts : (result (exec (.triggerExaminationAtCreation 0) (oneItem .entered .waiting 20))).trig[(0 : Station)].slot
    = some { word := triggerWord 0 .a false 40, tag := 0, bank := .a, period := 2, start := 0 } := by decide

/-- R61, R64: no force, no verdict, a station at fault: the default for station fault. -/
theorem test_default_decision : ((result (exec (.decisionExaminationAtCreation 0) (oneItem .entered .waiting 80))).queue.items.map
    fun i => (i.decision, i.phase)) = [(some { action := .reject, cause := .stationFault }, .decided)] := by decide

/-- R138, R161: a bad block is counted and changes no link state. -/
theorem test_bad_block : (result (exec (.badBlock .checkFails) line)).port.counts[(13 : Fin 14)] = 1 := by decide

/-- R87, R189, 12.3: the eighth byte of a header is its arrival; the word is that of item 0, 1 by 1 pixels at depth 8. -/
theorem test_last_header_byte : (result (exec (.pixelByte 0 8) { oneItem .entered .triggered 30 with
    ingest.ports := State.reset.ingest.ports.set 0
      { parser := .header [0x00, 0x02, 0x8A, 0, 1, 0, 1], fifo := [] } })).queue.items = [item .complete (.frame 0)] := by decide

/-- R160, R161: the next block's start makes a partial block a bad one. -/
theorem test_partial_block_is_bad : (result (exec (.badBlock .blockStart) { line with link.receiver := .collect [5] })).port.counts[(13 : Fin 14)] = 1 := by
  decide

/-- No row of the table gives bits. -/
theorem test_no_word_spells_a_command : decodeTableWord 16 0x1234 = none := by decide

/-! ## The hypotheses of the obligations are met

Each theorem shows, for the statement it names, a state and operands that meet its hypotheses, clause by clause where the
clauses differ, at boundary values of their ranges. -/

theorem headStays_carrying {i : Item} {x : Word32} (h : ¬ reached x (i.entry + (planOf i.bank (carrying i x)).exit.setWidth 32)) :
    headStays (carrying i x) := by
  intro j hj
  have e : i = j := by simpa [carrying] using hj
  subst e
  exact h

/-- Nothing waits in a receiver that is in HUNT. -/
theorem noPartial_of_hunt {s : State} (h : s.link.receiver = .hunt) : noPartial s := by
  intro b l e
  rw [h] at e
  cases e

theorem witness_IdleStepIsOneMicrosecond :
    State.reset.pending = [] ∧ reached 1024 State.reset.pos.windowEnd ∧ ¬ reached 1023 State.reset.pos.windowEnd := by
  unfold reached; decide

theorem witness_EachUnitHasItsWriters :
    Instr.readStatus.wellFormed = true ∧ Instr.readStatus ≠ .grantEnd ∧ ∃ t, exec .readStatus State.reset = .next t :=
  ⟨by decide, by decide, _, rfl⟩

theorem witness_FlagsStickAndCountsGrow :
    (Instr.badBlock .checkFails).wellFormed = true ∧ ∃ t, exec (.badBlock .checkFails) line = .next t :=
  ⟨by decide, _, rfl⟩

/-- The queue of one item with tag 0 is in turn. -/
theorem tagsInTurn_carrying {i : Item} (x : Word32) (h : i.tag = 0) : TagsInTurn (carrying i x) := by
  intro k j hj
  cases k with
  | zero =>
    have e : i = j := by simpa [carrying] using hj
    subst e
    rw [h]
    rfl
  | succ k => simp [carrying] at hj

/-- A decided item. -/
def decidedItem : Item :=
  { item .decided .missing with decision := some { action := .reject, cause := .forced } }

theorem witness_RecordsStayThenRetire :
    TagsInTurn (carrying decidedItem 80) ∧ (carrying decidedItem 80).queue.items.length ≤ 128
      ∧ (∃ t, exec .readStatus (carrying decidedItem 80) = .next t) ∧ decidedItem.decision ≠ none :=
  ⟨tagsInTurn_carrying 80 rfl, by decide, ⟨_, rfl⟩, by decide⟩

/-- The boundary of the exit point: a PASSED head is due on it and not one count before, and a decided item is voided on it. -/
theorem witness_retirement (x : Word32) (h : x = (planOf .a line).exit.setWidth 32) :
    (item .passed .missing).phase = .passed ∧ reached x ((item .passed .missing).entry + (planOf .a line).exit.setWidth 32)
      ∧ ¬ reached (x - 1) ((item .passed .missing).entry + (planOf .a line).exit.setWidth 32)
      ∧ busy (carrying decidedItem x) = false ∧ (carrying decidedItem x).queue.items = [decidedItem]
      ∧ address 0 0 (carrying decidedItem x) = .found 0 decidedItem ∧ decidedItem.phase = .decided
      ∧ (carrying decidedItem x).uplink.reports.length < 64 := by
  subst h
  refine ⟨rfl, ?_, ?_, by decide, by decide, by decide, rfl, by decide⟩ <;> (unfold reached; decide)

/-- The records of `oneFrame`. -/
theorem frameOf_oneFrame (r : FrameRecord) (id : FrameId) :
    frameOf id (oneFrame r) = if id = 0 then r else FrameRecord.freed := by
  by_cases h : id = 0
  · subst h
    simp [oneFrame, frameOf]
  · have : (0 : Nat) ≠ id.val := fun e => h (Fin.ext e.symm)
    simp [oneFrame, frameOf, h, this, State.reset]

/-- A store with one record that is neither evictable nor waiting in the background order, and is not being sent, is
conserved. -/
theorem storeConserved_oneFrame {r : FrameRecord} (hs : r.state ≠ .free) (hb : r.blocks = [0]) (he : r.evictable = false)
    (hw : r.waitsInBackground = false) (ho : r.openTx = 0) : StoreConserved (oneFrame r) := by
  have free : ∀ id, id ≠ 0 → frameOf id (oneFrame r) = FrameRecord.freed := fun id h => by simp [frameOf_oneFrame, h]
  have same : frameOf 0 (oneFrame r) = r := by simp [frameOf_oneFrame]
  have shut : ∀ id, (frameOf id (oneFrame r)).openTx = 0 := fun id => by
    by_cases e : id = 0
    · rw [e, same, ho]
    · rw [free id e]
      rfl
  refine ⟨?_, ?_, ?_, ?_, List.nodup_nil, ?_, List.nodup_nil, ?_, ?_, ?_, shut, ?_, ?_, ?_⟩
  · have h1 : heldBlocks (oneFrame r) = [0] := by
      have : (oneFrame r).store.frames.toList = r :: List.replicate 1023 FrameRecord.freed := rfl
      have none : (List.replicate 1023 FrameRecord.freed).flatMap FrameRecord.blocks = [] :=
        List.flatMap_eq_nil_iff.mpr fun x hx => by rw [List.eq_of_mem_replicate hx]; rfl
      rw [heldBlocks, this, List.flatMap_cons, hb, none]
      rfl
    have h2 : fullFreeList = 0 :: fullFreeList.tail := rfl
    rw [h1, h2]
    exact List.perm_append_comm
  · intro id h
    by_cases e : id = 0
    · subst e
      rw [same] at h
      exact absurd h hs
    · rw [free id e]
      rfl
  · intro id h
    by_cases e : id = 0
    · subst e
      rw [same, hb]
      decide
    · rw [free id e] at h
      exact absurd rfl h
  · intro id
    by_cases e : id = 0
    · subst e
      rw [same, he]
      exact ⟨fun h => absurd h (List.not_mem_nil), fun h => absurd h (by decide)⟩
    · rw [free id e]
      exact ⟨fun h => absurd h (List.not_mem_nil), fun h => absurd h (by decide)⟩
  · intro id
    by_cases e : id = 0
    · subst e
      rw [same, hw]
      exact ⟨fun h => absurd h (List.not_mem_nil), fun h => absurd h (by decide)⟩
    · rw [free id e]
      exact ⟨fun h => absurd h (List.not_mem_nil), fun h => absurd h (by decide)⟩
  · have : fifoFrames (oneFrame r) = [] := rfl
    rw [this]
    intro id h
    exact absurd h (List.not_mem_nil)
  · exact (show fifoFrames (oneFrame r) = [] from rfl) ▸ List.nodup_nil
  · intro p
    have : (oneFrame r).ingest.ports[p] = Port.clear := by simp [oneFrame, oneItem, carrying, line, State.reset]
    rw [this]
    exact ⟨fun x h => absurd h (by simp [Port.clear]), fun x h => absurd h (List.not_mem_nil)⟩
  · intro id h
    rw [shut id] at h
    exact absurd h (Nat.lt_irrefl 0)
  · exact fun x h => absurd h (List.not_mem_nil)
  · exact fun x h => absurd h (List.not_mem_nil)

theorem witness_KeepMarksHold :
    let r : FrameRecord := { record .ready .deadline with k0 := true }
    StoreConserved (oneFrame r) ∧ Instr.segmentBoundary.wellFormed = true ∧ (∃ t, exec .segmentBoundary (oneFrame r) = .next t)
      ∧ (frameOf 0 (oneFrame r)).state ≠ .free ∧ (frameOf 0 (oneFrame r)).k0 = true
      ∧ (∃ t, exec (.keep (.office 1) 0 0 0) (oneFrame r) = .next t) ∧ ∃ t, exec (.release .lineController 0 0 0) (oneFrame r) = .next t :=
  ⟨storeConserved_oneFrame (by decide) rfl (by decide) (by decide) rfl, by decide, ⟨_, rfl⟩, by decide, by decide, ⟨_, rfl⟩, ⟨_, rfl⟩⟩

theorem witness_EveryStepKeepsTheMemoryCanonical : MemoryCanonical State.reset ∧ ∃ t, step State.reset = .next t :=
  ⟨rfl, _, rfl⟩

theorem witness_EveryStepKeepsTheBounds :
    WithinBounds (oneItem .entered .waiting 20) ∧ QueuesOwned (oneItem .entered .waiting 20)
      ∧ StoreConserved (oneFrame (record .filling .none)) ∧ ∃ t, step (oneItem .entered .waiting 20) = .next t := by
  refine ⟨⟨by decide, by decide, by decide, by decide, by decide, by decide, by decide, by decide, by decide, by decide⟩,
    ⟨by decide, tagsInTurn_carrying 20 rfl, ?_, by decide, by decide, by decide, by decide, by decide, by decide, ?_, ?_, ?_, ?_⟩,
    storeConserved_oneFrame (by decide) rfl (by decide) (by decide) rfl, _, rfl⟩
  · intro i hi
    have e : i = item .entered .waiting := by simpa [oneItem, carrying] using hi
    subst e
    exact ⟨by decide, by decide, by decide, by decide, by decide⟩
  all_goals intro g; cases g <;> decide

theorem witness_EveryStepKeepsTheQueueCounted :
    TagsInTurn (oneItem .entered .waiting 20) ∧ InUseCounted (oneItem .entered .waiting 20)
      ∧ (oneItem .entered .waiting 20).queue.items.length ≤ 128 ∧ ∃ t, step (oneItem .entered .waiting 20) = .next t := by
  refine ⟨tagsInTurn_carrying 20 rfl, ?_, by decide, _, rfl⟩
  intro n
  cases n <;> rfl

theorem witness_EveryStepKeepsTheConfigurationSound :
    PlansSound (oneItem .entered .waiting 20) ∧ SettingsSound (oneItem .entered .waiting 20)
      ∧ ∃ t, step (oneItem .entered .waiting 20) = .next t := by
  refine ⟨⟨?_, by decide, by decide, by decide, by decide⟩, ⟨?_, by decide, by decide⟩, _, rfl⟩
  · intro n
    cases n <;> decide
  · unfold SettingsInRange
    decide

theorem witness_EveryStepConservesTheStore :
    StoreConserved (oneFrame (record .filling .none)) ∧ ∃ t, step (oneFrame (record .filling .none)) = .next t :=
  ⟨storeConserved_oneFrame (by decide) rfl (by decide) (by decide) rfl, _, rfl⟩

theorem witness_EncoderStepCounts :
    let s : State := { State.reset with port.settings.prescaler := 4, pos.residue := 3 }
    0 < s.port.settings.prescaler
      ∧ (s.pos.heldA, s.pos.heldB, true, false) ∈ [(false, false, true, false), (true, false, true, true), (true, true, false, true), (false, true, false, false)]
      ∧ (false, true, s.pos.heldA, s.pos.heldB) ∈ [(false, false, true, false), (true, false, true, true), (true, true, false, true), (false, true, false, false)]
      ∧ s.pos.residue + 1 = 1 * s.port.settings.prescaler ∧ (-3 : Int) + -1 = -1 * s.port.settings.prescaler
      ∧ s.pos.residue + -1 ≠ s.port.settings.prescaler ∧ s.pos.residue + -1 ≠ -(s.port.settings.prescaler : Int)
      ∧ s.port.settings.polarity = .normal ∧ s.queue.items = [] ∧ s.gates.reject.fires = [] ∧ s.gates.reject.output ≠ .on
      ∧ s.gates.rework.fires = [] ∧ s.gates.rework.output ≠ .on ∧ Polarity.inverted ≠ .normal
      ∧ (∃ o : WatchOrder, (watchers o).head? = some .itemQueue)
      ∧ headStays (oneItem .entered .waiting 119) ∧ (oneItem .entered .waiting 119).queue.items ≠ [] := by
  refine ⟨by decide, by decide, by decide, by decide, by decide, by decide, by decide, by decide, by decide, by decide, by decide,
    by decide, by decide, by decide, ⟨18, by decide⟩, headStays_carrying ?_, by decide⟩
  unfold reached
  decide

theorem witness_SpeedFollowsItsWindows :
    let s : State := { State.reset with pos.time := 1024, pos.windowAcc := 65535, pos.speed := 65535 }
    reached s.pos.time s.pos.windowEnd ∧ ¬ reached 1023 s.pos.windowEnd ∧ s.pos.windowAcc = ((65535 : Nat) : Int) ∧ s.pos.speed ≤ 65535
      ∧ (∃ t, exec .speedWindowEnd s = .next t) ∧ (0 + 1 < 2 ∧ 2 + 2 < 5) := by
  refine ⟨?_, ?_, by decide, by decide, ⟨_, rfl⟩, by decide⟩ <;> unfold reached <;> decide

theorem witness_TimeToPointIsTheRule :
    (90000 : Int) - ((190000 : Word32) - 100000).toInt ≤ 0 ∧ 0 < (90000 : Int) - ((189999 : Word32) - 100000).toInt
      ∧ State.reset.pos.speed = 0 ∧ 0 < ({ State.reset with pos.speed := 1 } : State).pos.speed := by
  decide

set_option maxRecDepth 8000 in
theorem witness_SensorEdgeCases :
    line.pos.sensor = false ∧ ({ line with pos.sensor := true } : State).pos.sensor = true ∧ line.port.settings.entrySource = .sensor
      ∧ line.port.mode ≠ .halt ∧ line.pos.direction = .forward ∧ State.reset.port.mode = .halt
      ∧ 128 ≤ ({ line with queue.items := List.replicate 128 (item .entered .waiting) } : State).queue.items.length
      ∧ ({ line with queue.items := List.replicate 127 (item .entered .waiting) } : State).queue.items.length < 128 := by
  decide

/-- Boundary of the pitch: 1,000 counts behind item 0 is far enough, 999 is not. -/
theorem witness_farEnough :
    farEnough 1000 (oneItem .entered .waiting 1000) ∧ ¬ farEnough 999 (oneItem .entered .waiting 999) := by
  constructor
  · intro y h
    have e : item .entered .waiting = y := by simpa [oneItem, carrying] using h
    subst e
    decide
  · intro h
    exact absurd (h (item .entered .waiting) rfl) (by decide)

theorem witness_AnnounceItemCases :
    busy line = false ∧ State.reset.port.mode = .halt ∧ line.port.settings.entrySource = .sensor ∧ line.port.mode ≠ .halt
      ∧ ({ line with port.settings.entrySource := .command } : State).port.settings.entrySource = .command
      ∧ ({ line with port.settings.entrySource := .command } : State).queue.items.length < 128 := by
  decide

theorem witness_AddressFindsTheRecord :
    ((oneItem .entered .waiting 20).queue.items.map Item.tag).Nodup
      ∧ (oneItem .entered .waiting 20).queue.items[0]? = some (item .entered .waiting) ∧ (item .entered .waiting).tag.val = (0 : Word16).toNat
      ∧ (1023 : Word16).toNat ≤ 1023 ∧ (∀ i ∈ (oneItem .entered .waiting 20).queue.items, i.tag.val ≠ (1023 : Word16).toNat)
      ∧ 1023 < (1024 : Word16).toNat ∧ (127 : Word16).toNat ≤ 127 ∧ (oneItem .entered .waiting 20).queue.items.length ≤ (127 : Word16).toNat
      ∧ 127 < (128 : Word16).toNat ∧ 2 ≤ (2 : Byte).toNat := by
  decide

theorem witness_ItemViewIsTheSameForBothMasters :
    noPartial (oneItem .entered .waiting 20)
      ∧ address 0 1024 (oneItem .entered .waiting 20) = .outOfRange ∧ address 0 1023 (oneItem .entered .waiting 20) = .noItem
      ∧ address 1 0 (oneItem .entered .waiting 20) = .found 0 (item .entered .waiting)
      ∧ busy (oneItem .entered .waiting 20) = false ∧ (oneItem .entered .waiting 20).link.state = .up :=
  ⟨noPartial_of_hunt rfl, by decide⟩

theorem witness_VoidItemAnswersByPhase :
    busy (oneItem .firing .missing 95) = false ∧ address 2 0 (oneItem .firing .missing 95) = .outOfRange
      ∧ address 1 1 (oneItem .firing .missing 95) = .noItem
      ∧ address 1 0 (oneItem .firing .missing 95) = .found 0 (item .firing .missing) ∧ (item .firing .missing).phase = .firing
      ∧ address 0 0 (oneItem .void .skipped 95) = .found 0 (item .void .skipped) ∧ (item .void .skipped).phase = .void
      ∧ address 0 0 (oneItem .decided .missing 85) = .found 0 (item .decided .missing) ∧ (item .decided .missing).phase = .decided := by
  decide

theorem witness_VoidReachesEveryUnit :
    busy (oneItem .entered .waiting 119) = false ∧ ((oneItem .entered .waiting 119).queue.items.map Item.tag).Nodup
      ∧ address 0 0 (oneItem .entered .waiting 119) = .found 0 (item .entered .waiting) ∧ headStays (oneItem .entered .waiting 119)
      ∧ (∃ t, exec (.voidItem 0 0) (oneItem .entered .waiting 119) = .next t)
      ∧ address 0 0 (carrying decidedItem 85) = .found 0 decidedItem ∧ decidedItem.phase = .decided
      ∧ decidedItem.decision = some { action := .reject, cause := .forced }
      ∧ references (item .complete (.frame 0)) 0 (oneFrame (record .ready .deadline)) = some 0
      ∧ address 0 0 (oneFrame (record .ready .deadline)) = .found 0 (item .complete (.frame 0)) := by
  refine ⟨by decide, by decide, by decide, headStays_carrying ?_, ⟨_, rfl⟩, by decide, by decide, by decide, by decide, by decide⟩
  unfold reached
  decide

/-- The payload of the plan above for bank B. -/
def planB : PlanPayload :=
  { bank := 1
    stations := #v[{ flags := 1, offset := 20, exposure := 40 }, { flags := 0, offset := 0, exposure := 0 }, { flags := 0, offset := 0, exposure := 0 },
      { flags := 0, offset := 0, exposure := 0 }, { flags := 0, offset := 0, exposure := 0 }, { flags := 0, offset := 0, exposure := 0 },
      { flags := 0, offset := 0, exposure := 0 }, { flags := 3, offset := 0, exposure := 0 }]
    decision := 80, rejectGate := 90, reworkGate := 100, width := 1, exit := 120 }

theorem witness_WriteAndReadPlanCases :
    busy line = false ∧ planB.bank = 1 ∧ (∀ st : Station, planB.stations[st].flags.toNat ≤ 3) ∧ 1 ≤ planB.width.toNat
      ∧ line.plans.pendingSwap = false ∧ ({ line with plans.pendingSwap := true } : State).plans.pendingSwap = true
      ∧ BankName.b ≠ line.plans.active ∧ (bankOf .b line).inUse = 0 ∧ BankName.a = line.plans.active
      ∧ 2 ≤ (2 : Byte).toNat ∧ planB.bank.toNat ≤ 1 ∧ 4 ≤ (4 : Byte).toNat ∧ ({ planB with width := 0 } : PlanPayload).width = 0 := by
  decide

theorem witness_CommitPlanCases :
    plan.firstFailure = none ∧ Plan.reset.firstFailure = some (1, 0)
      ∧ ({ plan with decision := 20 } : Plan).firstFailure = some (2, 0) ∧ ({ plan with rejectGate := 80 } : Plan).firstFailure = some (3, 0)
      ∧ ({ plan with reworkGate := 80 } : Plan).firstFailure = some (4, 0) ∧ ({ plan with rejectGate := 111 } : Plan).firstFailure = some (5, 0)
      ∧ ({ plan with reworkGate := 111 } : Plan).firstFailure = some (6, 0) ∧ busy line = false ∧ (planOf .a line).firstFailure = none
      ∧ (planOf .b line).firstFailure = some (1, 0) ∧ line.plans.pendingSwap = false ∧ line.port.mode ≠ .halt ∧ BankName.a = line.plans.active
      ∧ BankName.b ≠ line.plans.active ∧ State.reset.port.mode = .halt
      ∧ (planOf .b { line with plans.b.plan := plan }).firstFailure = none := by
  decide

theorem witness_VerdictAndForceCases :
    noPartial (oneItem .entered .waiting 20) ∧ line.link.state = .up ∧ busy line = false ∧ 3 ≤ (3 : Byte).toNat ∧ (2 : Byte).toNat ≤ 2 ∧ Action.code .rework = 2
      ∧ address 0 0 (oneItem .entered .waiting 20) = .found 0 (item .entered .waiting) ∧ (item .entered .waiting).decision = none
      ∧ (item .entered .waiting).verdict = none ∧ (item .entered .waiting).phase ≠ .void
      ∧ address 0 0 (carrying decidedItem 85) = .found 0 decidedItem ∧ decidedItem.decision ≠ none ∧ (item .void .skipped).phase = .void
      ∧ ({ item .entered .waiting with verdict := some { action := .accept, failMask := 0, revision := 255 } } : Item).verdict ≠ none :=
  ⟨noPartial_of_hunt rfl, by decide⟩

theorem witness_DecisionFollowsTheTable :
    ((oneItem .entered .waiting 80).queue.items.map Item.tag).Nodup ∧ itemOf? 0 (oneItem .entered .waiting 80) = some (item .entered .waiting)
      ∧ dueForDecision (item .entered .waiting) (oneItem .entered .waiting 80) ∧ headStays (oneItem .entered .waiting 80)
      ∧ ¬ dueForDecision (item .entered .waiting) (oneItem .entered .waiting 79) := by
  refine ⟨by decide, by decide, ?_, headStays_carrying ?_, ?_⟩
  · unfold dueForDecision reached; decide
  · unfold reached; decide
  · unfold dueForDecision reached; decide

theorem witness_DecisionReachesTheUnits :
    itemOf? 0 (oneFrame (record .ready .deadline)) = some (item .complete (.frame 0))
      ∧ dueForDecision (item .complete (.frame 0)) { oneFrame (record .ready .deadline) with pos.position := 80 }
      ∧ references (item .complete (.frame 0)) 0 (oneFrame (record .ready .deadline)) = some 0
      ∧ (tableR61 (item .complete (.frame 0)) (oneFrame (record .ready .deadline))).action = .reject
      ∧ ∃ t, exec (.decisionExaminationAtCreation 0) { oneFrame (record .ready .deadline) with pos.position := 80 } = .next t := by
  refine ⟨by decide, ?_, by decide, ?_, _, rfl⟩
  · unfold dueForDecision reached; decide
  · have h : ¬ ∃ st : Station, (item .complete (.frame 0)).stations[st].code ∈ [(1 : Byte), 2, 4, 6, 7, 8, 9] := by decide
    simp only [tableR61, if_neg h]
    decide

theorem witness_TriggerCheckIsTheExclusiveOr :
    betweenFrames 0 line ∧ (0x814286#24).extractLsb' 0 4 ≠ ((0x814286#24).extractLsb' 20 4
      ^^^ (0x814286#24).extractLsb' 16 4 ^^^ (0x814286#24).extractLsb' 12 4 ^^^ (0x814286#24).extractLsb' 8 4 ^^^ (0x814286#24).extractLsb' 4 4) :=
  ⟨Or.inl rfl, by decide⟩

theorem witness_StationsFallDue :
    ((oneItem .entered .waiting 20).queue.items.map Item.tag).Nodup
      ∧ itemOf? 0 (oneItem .entered .waiting 20) = some (item .entered .waiting) ∧ (oneItem .entered .waiting 20).port.mode = .run
      ∧ stationDue (item .entered .waiting) 0 (oneItem .entered .waiting 20) ∧ ¬ stationDue (item .entered .waiting) 0 (oneItem .entered .waiting 19)
      ∧ (oneItem .entered .waiting 20).trig[(0 : Station)].slot = none
      ∧ ({ oneItem .entered .waiting 20 with port.mode := .trackOnly } : State).port.mode = .trackOnly
      ∧ itemOf? 1 (oneItem .entered .waiting 20) = none ∧ 4 ≤ (List.replicate 4 (entryFor (item .entered .waiting) 0 line)).length
      ∧ (item .entered .waiting).phase = .entered ∧ unresolvedStations (item .complete .overrun) = 0 := by
  refine ⟨by decide, by decide, by decide, ⟨by decide, by decide, ?_, ?_⟩, ?_, by decide, by decide, by decide, by decide, by decide, by decide⟩
  · intro tr h
    rw [show (oneItem .entered .waiting 20).trig[(0 : Station)].slot = none by decide] at h
    cases h
  · unfold reached; decide
  · rintro ⟨-, -, -, h⟩
    revert h
    unfold reached
    decide

/-- Station 0 with the train of item 0 on the line since time 0, ending at 52. -/
def onTheLine (o : StationOutcome) (time : Word32) : State :=
  { oneItem .entered o 20 with
    pos.time := time
    trig := line.trig.set 0 { queue := [], slot := some (trainNow (entryFor (item .entered .waiting) 0 line) line), timeouts := [] } }

theorem witness_TrainEndStartsTheTimeout :
    line.trig[(0 : Station)].slot = none ∧ (onTheLine .waiting 52).trig[(0 : Station)].slot ≠ none
      ∧ reached 52 (0 + BitVec.ofNat 32 (26 * 2)) ∧ ¬ reached 51 (0 + BitVec.ofNat 32 (26 * 2))
      ∧ liveItem? 0 .a (onTheLine .waiting 52) = some (item .entered .waiting) ∧ (item .entered .waiting).stations[(0 : Station)] = .waiting
      ∧ liveItem? 0 .a (onTheLine .skipped 52) = some (item .entered .skipped) ∧ (item .entered .skipped).stations[(0 : Station)] ≠ .waiting := by
  refine ⟨by decide, by decide, ?_, ?_, by decide, by decide, by decide, by decide⟩ <;> unfold reached <;> decide

theorem witness_TimeoutMakesTheStationMissing :
    line.trig[(0 : Station)].timeouts = [] ∧ reached 100 100 ∧ ¬ reached 99 100
      ∧ liveItem? 0 .a (oneItem .entered .triggered 20) = some (item .entered .triggered)
      ∧ (item .entered .triggered).stations[(0 : Station)] = .triggered ∧ (item .entered .triggered).phase = .entered
      ∧ (∀ k : Station, ((item .entered .triggered).withStation 0 .missing).stations[k] ≠ .waiting
          ∧ ((item .entered .triggered).withStation 0 .missing).stations[k] ≠ .triggered) := by
  refine ⟨by decide, ?_, ?_, by decide, by decide, by decide, by decide⟩ <;> unfold reached <;> decide

/-- The word that station 0 echoes for item 0. -/
def echo : Word24 := triggerWord 0 .a false 40

theorem witness_HeaderChecksInOrder :
    betweenFrames 0 line ∧ ¬ headerGood echo 0 1 8 ∧ ¬ headerGood echo 8193 1 8 ∧ ¬ headerGood echo 1 1 9
      ∧ headerGood echo 8192 8192 12 ∧ (∀ i ∈ line.queue.items, ¬ (i.tag = wordTag echo ∧ i.bank = wordBank echo))
      ∧ liveItem? (wordTag echo) (wordBank echo) (oneItem .complete (.frame 0) 30) = some (item .complete (.frame 0))
      ∧ (item .complete (.frame 0)).stations[(0 : Station)].code ∈ [(0 : Byte), 3, 4, 5] := by
  refine ⟨Or.inl rfl, ?_⟩
  unfold headerGood
  decide

/-- The characters of a header and a trailer: the seventh and the eighth, the fifth and the sixth; a header that finds a frame
open. -/
theorem witness_characters :
    let l : List Byte := List.replicate 7 0
    (openPort (.header l) (held [] false)).ingest.ports[(0 : Station)].parser = .header l ∧ l.length = 7 ∧ l.tail.length < 7
      ∧ (openPort (.trailer opened (l.drop 2)) (held [] false)).ingest.ports[(0 : Station)].parser = .trailer opened (l.drop 2)
      ∧ (l.drop 2).length = 5 ∧ (l.drop 3).length < 5
      ∧ (openPort .discard (held [] false)).ingest.ports[(0 : Station)].parser = .discard
      ∧ (openPort (.pixels opened) (held [] false)).ingest.ports[(0 : Station)].parser = .pixels opened
      ∧ HeaderArrival.complete echo 1 1 8 ≠ .pattern ∧ Parser.pixels opened ≠ .header []
      ∧ (∃ u, exec (.frameHeader 0 .pattern) (openPort (.pixels opened) (held [] false)) = .next u)
      ∧ (∀ (f : OpenFrame) (x : List Byte), Parser.pixels opened ≠ .trailer f x)
      ∧ ∃ u, exec (.frameEndedWithoutTrailer 0 .pixelsByEnd) (openPort (.pixels opened) (held [] false)) = .next u :=
  ⟨by decide, by decide, by decide, by decide, by decide, by decide, by decide, by decide, by decide, by decide, ⟨_, rfl⟩,
    (fun _ _ h => nomatch h), ⟨_, rfl⟩⟩

theorem witness_MatchedHeaderIsStoredOrDropped :
    betweenFrames 0 (oneItem .entered .triggered 30) ∧ headerGood echo 1 1 8
      ∧ liveItem? (wordTag echo) (wordBank echo) (oneItem .entered .triggered 30) = some (item .entered .triggered)
      ∧ (item .entered .triggered).stations[(0 : Station)].code ∉ [(0 : Byte), 3, 4, 5] ∧ (frameOf 0 line).state = .free
      ∧ (∀ k : FrameId, k < 0 → (frameOf k line).state ≠ .free) ∧ line.store.freeList = 0 :: fullFreeList.tail
      ∧ line.port.settings.watermark ≤ fullFreeList.tail.length ∧ line.store.reclaim = []
      ∧ ({ line with store.freeList := [] } : State).store.freeList = []
      ∧ (allocBlock 0 { oneItem .entered .triggered 30 with
          store.frames := State.reset.store.frames.set 0 { record .filling .none with blocks := [] } }).2 = true := by
  refine ⟨Or.inl rfl, by unfold headerGood; decide, by decide, by decide, by decide, ?_, rfl, ?_, rfl, rfl, rfl⟩
  · intro k h
    exact absurd h (Fin.not_lt_zero k)
  · simp [fullFreeList, line, State.reset, Settings.reset]

/-- A full store: no record is FREE, and frame 0 is the first to go. -/
theorem witness_eviction :
    let s : State := { oneItem .entered .triggered 30 with
      store.frames := Vector.replicate 1024 (record .ready .background), store.reclaim := [0] }
    (∀ k : FrameId, (frameOf k s).state ≠ .free) ∧ s.store.reclaim.head? = some 0 := by
  refine ⟨fun k => ?_, rfl⟩
  simp [frameOf, record]

theorem witness_AllocationEvictsFromTheHead :
    StoreConserved (oneFrame (record .filling .none)) ∧ (frameOf 0 (oneFrame (record .filling .none))).state = .filling :=
  ⟨storeConserved_oneFrame (by decide) rfl (by decide) (by decide) rfl, by decide⟩

theorem witness_PixelByteCases :
    (openPort (.pixels opened) (held [] false)).ingest.ports[(0 : Station)].parser = .pixels opened
      ∧ (openPort (.pixels opened) (held [] false)).ingest.ports[(0 : Station)].fifo = [] ++ [held [] false]
      ∧ opened.received + 1 ≤ opened.expected ∧ (held [] false).cut = false ∧ ({ opened with received := 2 } : OpenFrame).expected < 2 + 1
      ∧ ((openPort (.pixels opened) (held [] false)).ingest.ports[(0 : Station)].fifo.flatMap FifoFrame.bytes).length < 262144
      ∧ FifoSettled (openPort (.pixels opened) (held [] false)).ingest.ports[(0 : Station)].fifo
      ∧ 262144 ≤ ([held (List.replicate 262144 0) false].flatMap FifoFrame.bytes).length := by
  refine ⟨by decide, by decide, by decide, by decide, by decide, by decide, ⟨?_, ?_⟩, ?_⟩
  · intro x h
    have e : held [] false = x := by simpa [openPort] using h
    subst e
    decide
  · intro x h
    exact absurd h (by simp [openPort])
  · simp only [List.flatMap_cons, List.flatMap_nil, List.append_nil]
    exact (List.length_replicate (n := 262144) (a := (0 : Byte))).ge

theorem witness_FrameEndsAtItsTrailer :
    let f : OpenFrame := { opened with received := 2 }
    let s := openPort (.trailer f []) (held [0, 0] false)
    FifoSettled s.ingest.ports[(0 : Station)].fifo ∧ s.ingest.ports[(0 : Station)].parser = .trailer f []
      ∧ s.ingest.ports[(0 : Station)].fifo = [] ++ [held [0, 0] false] ∧ (held [0, 0] false).frame = f.frame
      ∧ (held [0, 0] false).cut = false ∧ (1 : Word16).toNat = f.height ∧ f.received = f.expected
      ∧ liveItem? (frameOf 0 s).tag (frameOf 0 s).bank s = some (item .complete (.frame 0))
      ∧ (item .complete (.frame 0)).stations[(0 : Station)].code ∈ [(3 : Byte), 4, 5]
      ∧ (item .complete (.frame 0)).stations[(0 : Station)].frameId? = some f.frame
      ∧ f.atHeader.code ∈ [(1 : Byte), 2, 7, 9] ∧ StationOutcome.missing.code ∈ [(6 : Byte), 8] := by
  refine ⟨⟨?_, ?_⟩, by decide, by decide, by decide, by decide, by decide, by decide, by decide, by decide, by decide, by decide, by decide⟩
  · intro x h
    have e : held [0, 0] false = x := by simpa [openPort] using h
    subst e
    decide
  · intro x h
    exact absurd h (by simp [openPort])

/-- A frame cut off by truncation whose mark comes at the head of the FIFO, its trailer two bytes old. -/
theorem witness_cutFrame :
    let cutOff : FifoFrame := { held [] false with cut := true }
    let s := openPort (.trailer opened [1, 2]) cutOff
    FifoSettled s.ingest.ports[(0 : Station)].fifo ∧ s.ingest.ports[(0 : Station)].parser = .trailer opened [1, 2]
      ∧ s.ingest.ports[(0 : Station)].fifo = [] ++ [cutOff] ∧ cutOff.frame = opened.frame ∧ cutOff.cut = true := by
  refine ⟨⟨?_, ?_⟩, by decide, by decide, by decide, by decide⟩
  · intro x h
    have e : { held [] false with cut := true } = x := by simpa [openPort] using h
    subst e
    intro _
    rfl
  · intro x h
    exact absurd h (by simp [openPort])

theorem witness_WriteGrantCases :
    let s := openPort .hunt (held [1, 2] true)
    s.ingest.grant = none ∧ s.ingest.ports[s.ingest.pointer + (0 : Fin 8)].fifo = held [1, 2] true :: [] ∧ (held [1, 2] true).cut = false
      ∧ (held [1, 2] true).marked = true ∧ (frameOf 0 s).payload < 65536 * (frameOf 0 s).blocks.length
      ∧ (∀ j : Fin 8, j < 0 → portReady (s.ingest.pointer + j) s = false)
      ∧ ({ s with ingest.grant := some 0 } : State).ingest.grant ≠ none
      ∧ 65536 ≤ (List.replicate 65536 (0 : Byte)).length ∧ 65536 * [(0 : Block)].length ≤ 65536 ∧ 128 ≤ (List.replicate 128 (0 : Block)).length
      ∧ ({ s with store.freeList := [] } : State).store.reclaim = []
      ∧ (allocBlock 0 { s with ingest.pointer := 1 }).2 = true := by
  refine ⟨by decide, by decide, by decide, by decide, by decide, ?_, by decide, ?_, by decide, ?_, rfl, rfl⟩
  · intro j h
    exact absurd h (Fin.not_lt_zero j)
  · exact (List.length_replicate (n := 65536) (a := (0 : Byte))).ge
  · exact (List.length_replicate (n := 128) (a := (0 : Block))).ge

theorem witness_GrantEndCases :
    let s : State := { openPort .hunt (held [1, 2] true) with ingest.grant := some 0 }
    MemoryCanonical s ∧ s.ingest.grant = some 0 ∧ s.ingest.ports[(0 : Station)].fifo = held [1, 2] true :: []
      ∧ (frameOf 0 s).payload < 65536 * (frameOf 0 s).blocks.length ∧ (frameOf 0 s).blocks[(frameOf 0 s).payload / 65536]? = some 0
      ∧ (held [1, 2] true).marked = true ∧ (held [1, 2] true).bytes.length ≤ 65536 * (frameOf 0 s).blocks.length - (frameOf 0 s).payload
      ∧ (held [1, 2] false).marked = false ∧ State.reset.ingest.grant = none ∧ (record .filling .done).cls = .done
      ∧ (record .filling .done).k0 = false ∧ (record .filling .done).k1 = false ∧ (record .filling .done).openTx = 0 := by
  refine ⟨rfl, by decide, by decide, by decide, by decide, by decide, by decide, by decide, by decide, by decide, by decide, by decide, by decide⟩

theorem witness_CopyCostsAreTheRule :
    let r : FrameRecord := { FrameRecord.freed with width := 8192, height := 1, depth := 12 }
    1 ≤ r.width ∧ r.width ≤ 8192 ∧ 1 ≤ r.height ∧ r.height ≤ 8192 ∧ (r.depth = 8 ∨ r.depth = 12) ∧ 4 ∈ [1, 2, 4] ∧ 1 ≤ 1 := by
  decide

theorem witness_CopyBytesAreTheRule :
    1 ≤ 1 ∧ (∀ i j : Nat, i < 1 → j < 1 → 0 ≤ pixelValue (record .ready .done) [] (0 + i) (0 + j)
        ∧ pixelValue (record .ready .done) [] (0 + i) (0 + j) ≤ 255)
      ∧ (record .ready .done).payload ≤ 2 ∧ 1 < (record .ready .done).payload ∧ (record .ready .done).blocks[1 / 65536]? = some 0 := by
  refine ⟨by decide, ?_, by decide, by decide, by decide⟩
  intro i j hi hj
  obtain rfl : i = 0 := by omega
  obtain rfl : j = 0 := by omega
  decide

/-- The last pixels of the copies of a frame of 5 by 3 at depth 12, and a rectangle of 2 by 1 of which one pixel lies outside
it. -/
theorem witness_copyPlaces :
    let r : FrameRecord := { record .ready .done with width := 5, height := 3, depth := 12, payload := 30 }
    let q : Rect := { x := 4, y := 2, w := 2, h := 1 }
    r.depth = 12 ∧ 5 < copyWidth r 2 * copyHeight r 2 ∧ 1 < copyWidth r 4 * copyHeight r 4 ∧ 0 < regionWidth q 2 * regionHeight q 2
      ∧ 0 < regionWidth q 4 * regionHeight q 4 ∧ 1 < 2 ∧ 1 < q.w * q.h ∧ q.x + 0 % q.w < r.width ∧ q.y + 0 / q.w < r.height
      ∧ ¬ (q.x + 1 % q.w < r.width ∧ q.y + 1 / q.w < r.height) ∧ (record .ready .done).depth = 8 := by
  decide

/-- Nothing is due on a lane with no transmission open. -/
theorem noEnding_of_none {s : State} (h0 : s.uplink.clearAborts = []) (h1 : s.uplink.deadline = none) (h2 : s.uplink.region = none)
    (h3 : s.uplink.background = none) : noEnding s := by
  refine ⟨h0, ?_, ?_, ?_⟩ <;> intro x h
  · rw [h1] at h; cases h
  · rw [h2] at h; cases h
  · rw [h3] at h; cases h

/-- A deadline transmission of frame 0, at the full factor. -/
def sending (last abort : Bool) : DeadlineTx :=
  { frame := 0, factor := 1, deadline := 1000, slack := 900, offset := 0, last := last, abort := abort }

/-- The reply that waits in the witnesses. -/
def waiting : Reply :=
  { kind := 6, number := 0, result := .ok, body := [] }

theorem witness_AbortsRepliesReports :
    noEnding line ∧ line.link.state = .up ∧ noEnding State.reset ∧ State.reset.link.state = .aligning
      ∧ ({ line with uplink.replies := [waiting] } : State).uplink.replies = waiting :: []
      ∧ ({ line with uplink.reports := [reportOn .retire (item .void .skipped) false 0 line] } : State).uplink.replies = [] :=
  ⟨noEnding_of_none rfl rfl rfl rfl, rfl, noEnding_of_none rfl rfl rfl rfl, rfl, rfl, rfl⟩

/-- A background transmission of frame 0. -/
def sendingBehind (last abort : Bool) : BackgroundTx :=
  { frame := 0, offset := 0, last := last, abort := abort }

/-- An ABORT that CLEAR owes. -/
def owed (k : TxKind) : Abort :=
  { kind := k, frame := 0, number := 0, reason := .clear }

/-- A deadline and a background transmission marked for abort, and the ABORTs owed after CLEAR for a region and for a background
copy, of which the region's goes first. -/
theorem witness_aborts :
    (let s : State := { line with uplink.deadline := some (sending true true) }
     s.link.state = .up ∧ s.uplink.deadline = some (sending true true) ∧ (sending true true).abort = true ∧ s.uplink.region = none
       ∧ s.uplink.clearAborts = [] ∧ s.uplink.background = none)
      ∧ (let s : State := { line with uplink.deadline := some (sending false false), uplink.background := some (sendingBehind true true) }
         s.link.state = .up ∧ s.uplink.background = some (sendingBehind true true) ∧ (sendingBehind true true).abort = true
           ∧ s.uplink.clearAborts = [] ∧ (sending false false).last = false ∧ (sending false false).abort = false)
      ∧ (let s : State := { line with uplink.clearAborts := [owed .background, owed .region] }
         s.uplink.clearAborts = [owed .background] ++ owed .region :: [] ∧ (owed .region).reason = .clear
           ∧ (∀ b ∈ [owed .background], b.kind ≠ (owed .region).kind)
           ∧ (∀ b ∈ [owed .background] ++ [], ((owed .region).kind = .region → b.kind ≠ .deadline)
               ∧ ((owed .region).kind = .background → b.kind = .background))
           ∧ s.uplink.deadline = none ∧ s.uplink.background = none) := by
  decide

theorem witness_DeadlineTransmissionRuns :
    noEnding { line with uplink.deadline := some (sending false false) } ∧ line.link.state = .up ∧ line.uplink.replies = []
      ∧ line.uplink.reports = [] ∧ (sending true false).last = true ∧ (sending true false).abort = false
      ∧ (sending true false).factor ∈ [1, 2, 4] ∧ (sendingBehind true false).last = true ∧ (sendingBehind true false).abort = false := by
  refine ⟨⟨rfl, ?_, ?_, ?_⟩, rfl, rfl, rfl, rfl, rfl, by decide, rfl, rfl⟩
  · intro x h
    cases h
    decide
  · intro x h
    cases h
  · intro x h
    cases h

/-- Two pending frames of one item: with one deadline the lower station goes first, an earlier deadline before both. -/
def twoFrames : State :=
  { carrying { item .complete (.frame 0) with
        stations := #v[.frame 0, .frame 1, .disabled, .disabled, .disabled, .disabled, .disabled, .disabled] } 30 with
    store.frames := (State.reset.store.frames.set 0 (record .ready .deadline)).set 1
      { record .ready .deadline with station := 1, blocks := [1] } }

theorem witness_picksBefore :
    picksBefore 0 5 1 5 twoFrames ∧ ¬ picksBefore 1 5 0 5 twoFrames ∧ picksBefore 1 4 0 5 twoFrames ∧ pendingFrame 1 twoFrames := by
  unfold picksBefore pendingFrame
  decide

/-- The time to the decision point is known: S is 1, so 50 counts are 51,200 microseconds. -/
theorem witness_PickTakesTheFirstThatFits :
    let s : State := { oneFrame (record .ready .deadline) with pos.speed := 1 }
    noEnding s ∧ s.link.state = .up ∧ s.uplink.replies = [] ∧ s.uplink.reports = [] ∧ s.uplink.deadline = none
      ∧ pendingFrame 0 s ∧ deadlineOf 0 s = some 49200 ∧ fits 0 1 49200 s ∧ ¬ fits 0 1 0 s ∧ ∃ t, exec .segmentBoundary s = .next t := by
  refine ⟨noEnding_of_none rfl rfl rfl rfl, rfl, rfl, rfl, rfl, ?_, ?_, ?_, ?_, _, rfl⟩
  · unfold pendingFrame; decide
  · unfold deadlineOf; decide
  · unfold fits; decide
  · unfold fits; decide

/-- A region entry of frame 0. -/
def asked : RegionEntry :=
  { number := 1, frame := 0, tag := 0, station := 0, rect := { x := 0, y := 0, w := 1, h := 1 }, factor := 1 }

/-- No deadline frame is pending where the one record is none. -/
theorem regionsTurn_oneFrame {r : FrameRecord} {u : Uplink} (h : r.cls ≠ .deadline)
    (hu : noEnding { oneFrame r with uplink := u }) (h1 : u.replies = []) (h2 : u.reports = []) (h3 : u.deadline = none) :
    regionsTurn { oneFrame r with uplink := u } := by
  refine ⟨hu, rfl, h1, h2, h3, ?_⟩
  rintro id l ⟨ready, c, -⟩
  exfalso
  have e : frameOf id { oneFrame r with uplink := u } = frameOf id (oneFrame r) := rfl
  rw [e, frameOf_oneFrame] at ready c
  by_cases z : id = 0
  · rw [if_pos z] at c
    exact h c
  · rw [if_neg z] at ready
    exact absurd ready (by decide)

/-- The item is past its decision point, so the time left is 0 and L is minus the allowance: its frame fits at no factor, is
pending still, and is what the pick sheds. -/
theorem witness_RegionsThenBackgroundThenIdle_shed :
    let s : State := { oneFrame (record .ready .deadline) with pos.position := 100 }
    regionsTurn s ∧ pendingFrame 0 s ∧ deadlineOf 0 s = some (-2000) ∧ lookedAt 0 s = true ∧ (frameOf 0 s).shedNote = false
      ∧ s.uplink.region = none ∧ s.uplink.regions = [] ∧ s.uplink.background = none ∧ s.uplink.bgOrder = [] := by
  intro s
  have late : deadlineOf 0 s = some (-2000) := by unfold deadlineOf; decide
  refine ⟨⟨noEnding_of_none rfl rfl rfl rfl, rfl, rfl, rfl, rfl, ?_⟩, ?_, late, by unfold lookedAt deadlineOf; decide, by decide, rfl, rfl,
    rfl, rfl⟩
  · rintro id l ⟨ready, -⟩ hl f ⟨-, -, h⟩
    have e : frameOf id s = frameOf id (oneFrame (record .ready .deadline)) := rfl
    rw [e, frameOf_oneFrame] at ready
    by_cases z : id = 0
    · subst z
      rw [late] at hl
      cases hl
      omega
    · rw [if_neg z] at ready
      exact absurd ready (by decide)
  · unfold pendingFrame
    decide

theorem witness_RegionsThenBackgroundThenIdle :
    let r := record .ready .background
    let base := (oneFrame r).uplink
    let running : RegionTx := { number := 1, frame := 0, rect := asked.rect, factor := 1, offset := 0, last := false }
    regionsTurn { oneFrame r with uplink := { base with regions := [asked] } }
      ∧ regionsTurn { oneFrame r with uplink := { base with region := some running } }
      ∧ regionsTurn { oneFrame r with uplink := { base with background := some (sendingBehind false false) } }
      ∧ regionsTurn { oneFrame r with uplink := { base with bgOrder := [0] } }
      ∧ base.region = none ∧ base.regions = [] ∧ base.background = none ∧ base.bgOrder = []
      ∧ (frameOf 0 (oneFrame r)).state = .ready ∧ (frameOf 0 (oneFrame r)).tag = asked.tag ∧ (frameOf 0 (oneFrame r)).station = asked.station
      ∧ ¬ (frameOf 1 (oneFrame r)).state = .ready := by
  refine ⟨regionsTurn_oneFrame (by decide) (noEnding_of_none rfl rfl rfl rfl) rfl rfl rfl,
    regionsTurn_oneFrame (by decide) ⟨rfl, ?_, ?_, ?_⟩ rfl rfl rfl, regionsTurn_oneFrame (by decide) ⟨rfl, ?_, ?_, ?_⟩ rfl rfl rfl,
    regionsTurn_oneFrame (by decide) (noEnding_of_none rfl rfl rfl rfl) rfl rfl rfl, rfl, rfl, rfl, rfl, by decide, by decide, by decide,
    by decide⟩
  all_goals (intro x h; cases h <;> decide)

set_option maxRecDepth 20000 in
theorem witness_FetchRegionCases :
    let s := oneFrame (record .ready .background)
    noPartial s ∧ s.link.state = .up ∧ 1023 < (1024 : Word16).toNat ∧ (1 : Byte) ∈ [(1 : Byte), 2, 4] ∧ (0 : Byte) ∉ [(1 : Byte), 2, 4]
      ∧ (1023 : Word16).toNat ≤ 1023 ∧ (frameOf 1023 s).state = .free ∧ (frameOf 0 s).tag.val = (0 : Word16).toNat ∧ (frameOf 0 s).state = .ready
      ∧ (frameOf 0 (oneFrame (record .filling .none))).state = .filling ∧ (frameOf 0 s).width ≤ (2 : Word16).toNat
      ∧ (1 : Word16).toNat < (frameOf 0 s).width ∧ s.uplink.regions.length < 16 :=
  ⟨noPartial_of_hunt rfl, by decide⟩

set_option maxRecDepth 20000 in
theorem witness_KeepAndReleaseCases :
    let s := oneFrame (record .ready .background)
    noPartial s ∧ s.link.state = .up ∧ busy s = false ∧ 1023 < (1024 : Word16).toNat ∧ (1023 : Word16).toNat ≤ 1023 ∧ (frameOf 1023 s).state = .free
      ∧ (frameOf 0 s).state ≠ .free ∧ (frameOf 0 s).tag.val = (0 : Word16).toNat ∧ address (1 - 1) 1024 s = .outOfRange
      ∧ address (2 - 1) 1 s = .noItem ∧ address (1 - 1) 0 s = .found 0 (item .complete (.frame 0))
      ∧ references (item .complete (.frame 0)) 0 s = some 0
      ∧ 3 ≤ (3 : Byte).toNat :=
  ⟨noPartial_of_hunt rfl, by decide⟩

/-- A gate with one fire of item 0, from 90 to 100. -/
def oneFire (o : GateOutput) (st : FireStatus) (x : Word32) : State :=
  { oneItem .decided .missing x with gates.reject := { output := o, fires := [{ tag := 0, start := 90, stop := 100, status := st }] } }

theorem witness_GateExaminations :
    headStays (oneFire .idle .scheduled 100)
      ∧ (oneFire .idle .scheduled 90).gates.reject.fires.find? (fun f => f.tag == 0 && f.status == .scheduled)
          = some { tag := 0, start := 90, stop := 100, status := .scheduled }
      ∧ ¬ reached 89 90 ∧ reached 90 90 ∧ ¬ reached 99 100 ∧ reached 100 100 ∧ (oneFire .idle .scheduled 90).gates.reject.output = .idle
      ∧ (∀ g : Gate, ∀ f ∈ (gateOf g line).fires, ¬ (f.tag = 0 ∧ f.status = .scheduled))
      ∧ (∀ f ∈ (gateOf .reject (oneFire .on .on 100)).fires, ¬ (f.status = .scheduled ∧ reached 100 f.start)) := by
  refine ⟨?_, by decide, ?_, ?_, ?_, ?_, by decide, ?_, ?_⟩
  · intro j hj
    have e : item .decided .missing = j := by simpa [oneFire, oneItem, carrying] using hj
    subst e
    unfold reached
    decide
  · unfold reached; decide
  · unfold reached; decide
  · unfold reached; decide
  · unfold reached; decide
  · intro g f hf
    cases g <;> exact absurd hf List.not_mem_nil
  · intro f hf
    have e : f = { tag := 0, start := 90, stop := 100, status := .on } := by simpa [oneFire, gateOf] using hf
    subst e
    rintro ⟨h, -⟩
    exact absurd h (by decide)

theorem witness_RecoveryExpiryReleasesTheHeld :
    let s : State := { oneFire (.recovery 50) .held 99 with pos.time := 50 }
    (gateOf .reject s).output = .recovery 50 ∧ reached s.pos.time 50 ∧ ¬ reached 49 50 ∧ ((gateOf .reject s).fires.map Fire.tag).Nodup
      ∧ (∀ j ∈ s.queue.items, ¬ reached s.pos.position (j.entry + (planOf j.bank s).exit.setWidth 32)) := by
  refine ⟨rfl, ?_, ?_, by decide, ?_⟩
  · unfold reached; decide
  · unfold reached; decide
  · intro j hj
    have e : j = item .decided .missing := by simpa [oneFire, oneItem, carrying] using hj
    subst e
    unfold reached
    decide

/-- The fires of item 0: on the rework gate, with no SCHEDULED fire on the reject gate; a start that is reached on a gate that is
IDLE, ON or in RECOVERY; before the expiry. -/
theorem witness_fires :
    (let s : State := { oneItem .decided .missing 90 with gates.rework.fires := [{ tag := 0, start := 90, stop := 100, status := .scheduled }] }
     (gateOf .rework s).fires.find? (fun f => f.tag == 0 && f.status == .scheduled) = some { tag := 0, start := 90, stop := 100, status := .scheduled }
       ∧ ∀ e ∈ s.gates.reject.fires, ¬ (e.tag = 0 ∧ e.status = .scheduled))
     ∧ ((gateOf .reject (oneFire .idle .scheduled 90)).fires.map Fire.tag).Nodup
     ∧ (gateOf .reject (oneFire .idle .scheduled 90)).fires.filter
         (fun f => decide (f.status = .scheduled ∧ 0 ≤ ((90 : Word32) - f.start).toInt)) ≠ []
     ∧ (gateOf .reject (oneFire .idle .scheduled 90)).output = .idle ∧ (gateOf .reject (oneFire .on .scheduled 90)).output = .on
     ∧ (gateOf .reject (oneFire (.recovery 50) .scheduled 90)).output = .recovery 50 ∧ (gateOf .rework line).output = .idle := by
  decide

theorem witness_HaltInputCutsTheGates :
    line.pos.halt = false ∧ ({ line with pos.halt := true } : State).pos.halt = true ∧ line.port.settings.haltMode = .cut
      ∧ ({ line with port.settings.haltMode := .hold } : State).port.settings.haltMode = .hold ∧ (gateOf .reject (oneFire .on .on 95)).output = .on
      ∧ (gateOf .rework (oneFire .on .on 95)).output ≠ .on := by
  decide

theorem witness_LampFollowsModeAndLink :
    line.gates.lamp.state = tableR157 line.port.mode line.link.state ∧ (∃ t, exec (.setMode 1) line = .next t)
      ∧ ({ line with gates.lamp.state := .slow } : State).gates.lamp.state = .slow ∧ reached 500000 500000 ∧ ¬ reached 499999 500000
      ∧ line.gates.lamp.state = .on := by
  refine ⟨by decide, ⟨_, rfl⟩, by decide, ?_, ?_, by decide⟩ <;> unfold reached <;> decide

theorem witness_BlocksAreJudgedByTheLink :
    noPartial State.reset ∧ isBlock (.idleBlock 0) = true ∧ (Instr.idleBlock 0).wellFormed = true ∧ State.reset.link.state = .aligning
      ∧ State.reset.link.goodRun < 3 ∧ ({ State.reset with link.goodRun := 3 } : State).link.goodRun = 3 ∧ noPartial line ∧ line.link.state = .up
      ∧ ({ line with link.receiver := .collect [5] } : State).link.receiver = .collect (5 :: []) ∧ line.link.receiver = .hunt
      ∧ (List.replicate 62 (5 : Byte)).length < 63 ∧ (List.replicate 63 (5 : Byte)).length = 63
      ∧ kindUnknown 0x20 = true := by
  refine ⟨noPartial_of_hunt rfl, by decide, by decide, by decide, by decide, by decide, noPartial_of_hunt rfl, by decide, by decide, by decide,
    by decide, by decide, by decide⟩

theorem witness_LinkLossClosesTheTransmissions :
    let s : State := { line with
      pos.time := 1000000
      uplink.deadline := some (sending false false)
      uplink.region := some { number := 1, frame := 0, rect := asked.rect, factor := 1, offset := 0, last := false }
      uplink.background := some (sendingBehind false false) }
    (s.link.state = .up ∧ ∃ x, s.link.lossTimer = some x ∧ reached s.pos.time x)
      ∧ ¬ (line.link.state = .up ∧ ∃ x, line.link.lossTimer = some x ∧ reached line.pos.time x) := by
  refine ⟨⟨rfl, 1000000, rfl, ?_⟩, ?_⟩
  · unfold reached
    decide
  · rintro ⟨-, x, h, due⟩
    cases h
    revert due
    unfold reached
    decide

theorem witness_RequestsAreTakenAndAnswered :
    busy { line with port.buffer := .busy [1, 0] } = true ∧ busy line = false ∧ [(2 : Byte)].head? ≠ some 0 ∧ [(2 : Byte)].length < 2
      ∧ [(2 : Byte), 1] = 2 :: 1 :: [] ∧ ([] : List Byte).length ≠ (1 : Byte).toNat ∧ 19 < (20 : Byte).toNat
      ∧ requestLengthOk (3 : Byte).toNat (80 : Byte).toNat = false := by
  decide

theorem witness_ReadResponseSendsWhatIsHeld :
    (0 < 1) ∧ (1 < 2) ∧ State.reset.port.buffer = .vacant ∧ (2 < 3) ∧ ({ line with port.buffer := .busy [1, 0] } : State).port.buffer = .busy [1, 0]
      ∧ ({ line with port.buffer := .ready [1, 0] } : State).port.buffer = .ready [1, 0] ∧ [(1 : Byte), 0][4 - 3]? = some 0 := by
  decide

/-- The bus in each of its states, and a chip select, bytes and a release that lead on. -/
theorem witness_bus :
    line.port.bus = .idle ∧ ({ line with port.bus := .begun } : State).port.bus = .begun ∧ (2 : Byte) ≠ 0
      ∧ ({ line with port.bus := .writing [2] } : State).port.bus = .writing [2] ∧ BusState.begun ≠ .idle
      ∧ ({ line with port.bus := .reading } : State).port.bus = .reading
      ∧ ({ line with port.bus := .sending true [] } : State).port.bus = .sending true []
      ∧ ({ line with port.bus := .sending false [1] } : State).port.bus = .sending false [1]
      ∧ ({ line with port.bus := .sending false [] } : State).port.bus = .sending false []
      ∧ (∃ t, exec (.writeRequest (.transaction [2])) line = .next t) ∧ ∃ t, exec (.readResponse (0 + 1)) line = .next t := by
  refine ⟨by decide, by decide, by decide, by decide, by decide, by decide, by decide, by decide, by decide, ⟨_, rfl⟩, ⟨_, rfl⟩⟩

theorem witness_SetModeCases :
    busy line = false ∧ 3 ≤ (3 : Byte).toNat ∧ Mode.code .run = line.port.mode.code ∧ Mode.halt ≠ (oneItem .entered .waiting 20).port.mode
      ∧ (oneItem .entered .waiting 20).queue.items ≠ [] ∧ Mode.run ≠ State.reset.port.mode ∧ State.reset.port.mode = .halt
      ∧ (bankOf State.reset.plans.active State.reset).valid = false ∧ Mode.halt ≠ line.port.mode ∧ line.queue.items = []
      ∧ line.plans.pendingSwap = false := by
  decide

/-- The item with its trigger waiting: leaving RUN, the station is SKIPPED, and the last unresolved one makes it COMPLETE. -/
theorem witness_SetModeCases_queued :
    let s := oneItem .entered .waiting 20
    let q : State := { s with trig := s.trig.set 0 { s.trig[(0 : Station)] with
      queue := [{ tag := 0, bank := .a, strobe := false, exposure := 0 }] } }
    busy q = false ∧ Mode.trackOnly ≠ q.port.mode ∧ Mode.trackOnly ≠ .run ∧ q.port.mode ≠ .halt ∧ (q.queue.items.map Item.tag).Nodup
      ∧ withoutQueued q (item .entered .waiting) = item .complete .skipped := by
  decide

theorem witness_ConfigureIsAllOrNothing :
    busy State.reset = false ∧ State.reset.port.mode = .halt ∧ line.port.mode ≠ .halt ∧ settingOk 0 128 ∧ settingOk 18 10000 ∧ ¬ settingOk 18 99
      ∧ ¬ settingOk 19 0 ∧ settingOk 5 1000000 ∧ ¬ settingOk 5 1000001 ∧ 1 ≤ [({ number := 0, value := 128 } : SettingItem)].length := by
  refine ⟨by decide, by decide, by decide, ?_, ?_, ?_, ?_, ?_, ?_, by decide⟩ <;> (unfold settingOk; decide)

theorem witness_StatusEventsAndCounts : busy State.reset = false ∧ 2 ≤ (2 : Byte).toNat := by decide

theorem witness_ClearStartsAgain : busy line = false ∧ line.link.state = .up ∧ State.reset.link.state = .aligning := by decide

set_option maxRecDepth 30000 in
theorem witness_WireFormatsReadBack :
    (LineRequest.configure [{ number := 0, value := 1 }]).lengthOk = true ∧ (Instr.queryStatus 9).wellFormed = true
      ∧ (encodeBlock (.queryStatus 9)).isSome = true ∧ (List.replicate 64 (0 : Byte)).length = 64
      ∧ crc16 ((List.replicate 64 (0 : Byte)).take 62) ≠ at2 (List.replicate 64 0) 62 ∧ (List.replicate 63 (0 : Byte)).length < 64 := by
  decide

end Sys2Proof.Tests
end

section
/-! ANNOUNCE ITEM (R7): the checks and effects of an item creation in the words of the claims, the owner's answer case by
case, and the port's side of the exchange. -/

namespace Sys2Proof.Machine

open Sys2Proof.Safety

variable (s : State)

/-! ## The two checks of a creation (R5) -/

theorem queueFull_iff : queueFull s = true ↔ 128 ≤ s.queue.items.length :=
  decide_eq_true_iff

theorem queueFull_eq_false_iff : queueFull s = false ↔ s.queue.items.length < 128 :=
  decide_eq_false_iff_not.trans Nat.not_le

theorem pitchOk_iff (e : Word32) : pitchOk e s = true ↔ farEnough e s := by
  unfold pitchOk farEnough
  cases s.queue.items.getLast? with
  | none => simp
  | some y => simp [signedDiff]

/-! ## What a refusal and a creation do -/

/-- An entry that meets a full queue is noted: flag bit 15, count 0 (R183, R185). -/
theorem refuseFull_eq : refuseFull s = noted 15 0 s := by
  simp only [refuseFull, bump, countUp_eq]
  rfl

/-- The bank that is active once the pending swap, if there is one, has been taken (R48). -/
def creationBank : BankName :=
  if s.plans.pendingSwap then s.plans.active.other else s.plans.active

/-- A pending swap taken: the other bank is active, and bit 1 of the flags is PLAN_SWAPPED (R47, R48, R183). -/
theorem swapIfPending_eq :
    swapIfPending s = { s with
      plans := { s.plans with active := creationBank s, pendingSwap := false }
      port.flags := if s.plans.pendingSwap then s.port.flags ||| (1#16 <<< 1) else s.port.flags } := by
  unfold swapIfPending creationBank
  cases h : s.plans.pendingSwap with
  | false => rw [if_neg Bool.false_ne_true, if_neg Bool.false_ne_true, if_neg Bool.false_ne_true, ← h]
  | true => rfl

/-- The record created is the one of R8, for the bank that is active once the pending swap has been taken. -/
theorem itemAt_swapIfPending (e : Word32) : itemAt e (swapIfPending s) = newRecord (creationBank s) e s := by
  rw [swapIfPending_eq]
  rfl

/-- A record appended advances the next-tag counter and raises the in-use count of its bank alone (R4, R42). -/
theorem appendItem_eq (i : Item) :
    appendItem i s = { s with
      queue := { items := s.queue.items ++ [i], nextTag := s.queue.nextTag + 1 }
      plans.a.inUse := s.plans.a.inUse + (if i.bank = .a then 1 else 0)
      plans.b.inUse := s.plans.b.inUse + (if i.bank = .b then 1 else 0) } := by
  unfold appendItem
  cases i.bank <;> rfl

theorem createItem_eq (e : Word32) : createItem e s = withCreation e s := by
  rw [createItem, itemAt_swapIfPending, appendItem_eq, swapIfPending_eq]
  rfl

theorem BankName.code_eq_ite (n : BankName) : n.code = if n = .a then 0 else 1 := by
  cases n <;> rfl

/-! ## The owner's answer (R7), by the first case that applies -/

/-- The entry position that ANNOUNCE ITEM asks for: so many counts behind the position count (R7). -/
def announcedEntry (back : Word16) : Word32 :=
  s.pos.position - back.setWidth 32

section

variable {s : State} {back : Word16}

theorem answerAnnounceItem_of_wrongMode (h : s.port.mode = .halt ∨ s.port.settings.entrySource = .sensor) :
    answerAnnounceItem back s = (s, .wrongMode, []) := by
  unfold answerAnnounceItem
  by_cases halt : s.port.mode = .halt
  · rw [if_pos halt]
  · rw [if_neg halt, if_pos (h.resolve_left halt)]

variable (running : s.port.mode ≠ .halt) (source : s.port.settings.entrySource = .command)
include running source

theorem answerAnnounceItem_of_full (full : 128 ≤ s.queue.items.length) :
    answerAnnounceItem back s = (noted 15 0 s, .full, []) := by
  simp [answerAnnounceItem, running, source, (queueFull_iff s).mpr full, refuseFull_eq]

variable (room : s.queue.items.length < 128)
include room

theorem answerAnnounceItem_of_tooClose (close : ¬ farEnough (announcedEntry s back) s) :
    answerAnnounceItem back s = (s, .invalid, []) := by
  have notFull : queueFull s = false := (queueFull_eq_false_iff s).mpr room
  have pitch : pitchOk (s.pos.position - back.setWidth 32) s = false := Bool.eq_false_iff.mpr (mt (pitchOk_iff s _).mp close)
  simp [answerAnnounceItem, running, source, notFull, pitch]

theorem answerAnnounceItem_of_farEnough (far : farEnough (announcedEntry s back) s) :
    answerAnnounceItem back s = (withCreation (announcedEntry s back) s, .ok,
      bytes2 s.queue.nextTag.val ++ [(creationBank s).code] ++ bytes4 (announcedEntry s back).toNat) := by
  have notFull : queueFull s = false := (queueFull_eq_false_iff s).mpr room
  have pitch : pitchOk (s.pos.position - back.setWidth 32) s = true := (pitchOk_iff s _).mpr far
  simp [answerAnnounceItem, running, source, notFull, pitch, announcedEntry, createItem_eq, itemAt_swapIfPending, newRecord]

end

/-! ## The port's side (R175 to R177) -/

/-- ANNOUNCE ITEM taken: four bytes have been sent, all 0, and the owner's answer is held under the request's code, 8. -/
theorem exec_announceItem_of_free {s : State} (back : Word16) (free : busy s = false) :
    exec (.announceItem back) s = .next (holdAnswer 8 (answerAnnounceItem back (sendZeros 4 s))) :=
  congrArg Host.Outcome.next (takeRequest_of_free s (.announceItem back) free)

/-- Settles O19: each case of R7 is one case of the owner's answer, which reads none of the fields that the port's exchange
changes. -/
theorem announceItemCases : Obligations.AnnounceItemCases := by
  unfold Obligations.AnnounceItemCases
  intro back s free e n
  rw [exec_announceItem_of_free back free]
  refine ⟨fun wrongMode => ?wrongMode, fun running source =>
    ⟨fun full => ?full, fun room close => ?tooClose, fun room far => ?created⟩⟩
  case wrongMode => rw [answerAnnounceItem_of_wrongMode (s := sendZeros 4 s) wrongMode]; rfl
  case full => rw [answerAnnounceItem_of_full (s := sendZeros 4 s) running source full]; rfl
  case tooClose => rw [answerAnnounceItem_of_tooClose (s := sendZeros 4 s) running source room close]; rfl
  case created =>
    rw [answerAnnounceItem_of_farEnough (s := sendZeros 4 s) running source room far, BankName.code_eq_ite]
    rfl

end Sys2Proof.Machine
end

section
/-! Time-to-point (R30): its three cases, each as an equation of its own, and its bound. -/

namespace Sys2Proof.Machine

section

variable {e : Word32} {d : Word24} {s : State}

theorem timeToPoint_of_behind (behind : remaining e d s.pos.position ≤ 0) : timeToPoint e d s = 0 :=
  if_pos behind

theorem timeToPoint_of_stopped (ahead : 0 < remaining e d s.pos.position) (stopped : s.pos.speed = 0) :
    timeToPoint e d s = Config.tMax := by
  rw [timeToPoint, if_neg (not_le.mpr ahead), if_pos stopped]

/-- The model divides naturals. Above 0 the remaining distance is its own `toNat`, so the quotient is that of integers. -/
theorem timeToPoint_of_moving (ahead : 0 < remaining e d s.pos.position) (moving : 0 < s.pos.speed) :
    (timeToPoint e d s : Int) = min (Config.tMax : Int) (remaining e d s.pos.position * 1024 / (s.pos.speed : Int)) := by
  have distance : ((remaining e d s.pos.position).toNat : Int) = remaining e d s.pos.position := Int.toNat_of_nonneg ahead.le
  rw [timeToPoint, if_neg (not_le.mpr ahead), if_neg moving.ne']
  rw [Nat.cast_min, Int.natCast_ediv, Nat.cast_mul, distance, Nat.cast_ofNat]

theorem timeToPoint_le_tMax : timeToPoint e d s ≤ Config.tMax := by
  unfold timeToPoint
  split_ifs with behind stopped
  · exact Nat.zero_le _
  · exact le_rfl
  · exact min_le_left _ _

end

/-- Settles O17: the statement's `r` is `remaining`, and each case of R30 is one equation of `timeToPoint`. -/
theorem timeToPointIsTheRule : Obligations.TimeToPointIsTheRule := by
  unfold Obligations.TimeToPointIsTheRule
  exact fun _ _ _ => ⟨timeToPoint_of_behind, timeToPoint_of_stopped, timeToPoint_of_moving, timeToPoint_le_tMax⟩

end Sys2Proof.Machine
end

section
/-! What the Plan Store's requests share (chapter 3): the first station that meets a test, the bank byte, and how the port
takes and answers a request. -/

namespace Sys2Proof.Machine

open Sys2Proof.Safety

/-! ## The first station that meets a test -/

theorem allStations_eq_finRange : allStations = List.finRange 8 := rfl

theorem find?_allStations_eq_some_iff {test : Station → Bool} {st : Station} :
    allStations.find? test = some st ↔ test st = true ∧ ∀ k, k < st → test k = false := by
  rw [allStations_eq_finRange, ← Fin.find?_eq_find?_finRange, Fin.find?_eq_some_iff]

theorem find?_allStations_eq_none_iff {test : Station → Bool} :
    allStations.find? test = none ↔ ∀ st, test st = false := by
  rw [allStations_eq_finRange, ← Fin.find?_eq_find?_finRange, Fin.find?_eq_none_iff]

/-! ## The bank byte (12.1) -/

@[simp] theorem bankNameOf_code (n : BankName) : bankNameOf n.code.toNat = some n := by
  cases n <;> rfl

theorem bankNameOf_eq_none_iff {k : Nat} : bankNameOf k = none ↔ 2 ≤ k := by
  match k with
  | 0 | 1 | k + 2 => simp [bankNameOf]

/-! ## The port's side (R175 to R177) -/

theorem bankOf_sendZeros (n : BankName) (k : Nat) (s : State) : bankOf n (sendZeros k s) = bankOf n s := by
  cases n <;> rfl

/-- The bus and the bytes sent are none of a bank's concern. -/
theorem updBank_sendZeros (n : BankName) (f : PlanBank → PlanBank) (k : Nat) (s : State) :
    updBank n f (sendZeros k s) = sendZeros k (updBank n f s) := by
  cases n <;> rfl

/-- A request whose bytes were all answered with 0 leaves the port as `taken` says. -/
theorem holdAnswer_sendZeros (code : Byte) (k : Nat) (t : State) (r : Result) (body : List Byte) :
    holdAnswer code (sendZeros k t, r, body) = taken k (code :: r.code :: body) t :=
  rfl

end Sys2Proof.Machine
end

section
/-! COMMIT PLAN (R45 to R47): the first condition that a plan fails, the owner's answer case by case, and the obligation. -/

namespace Sys2Proof.Machine

open Sys2Proof.Safety

/-! ## The six conditions (R45) -/

/-- Condition 1: some station is enabled. -/
def Plan.enablesSome (p : Plan) : Prop :=
  ∃ st : Station, p.stations[st].enable = true

/-- A station breaks condition 2: it is enabled, and its offset is not below the decision offset. -/
def Plan.breaksAt (p : Plan) (st : Station) : Bool :=
  p.stations[st].enable && decide (p.decision.toNat ≤ p.stations[st].offset.toNat)

/-- The first of conditions 3 to 6, which speak of no station, that a plan fails. -/
def Plan.pointFailure (p : Plan) : Option (Nat × Nat) :=
  if p.rejectGate.toNat ≤ p.decision.toNat then some (3, 0)
  else if p.reworkGate.toNat ≤ p.decision.toNat then some (4, 0)
  else if p.exit.toNat < p.rejectGate.toNat + p.width.toNat then some (5, 0)
  else if p.exit.toNat < p.reworkGate.toNat + p.width.toNat then some (6, 0)
  else none

section

variable {p : Plan}

theorem Plan.any_enable_iff : p.stations.toList.any StationPlan.enable = true ↔ p.enablesSome := by
  simp [Plan.enablesSome, Vector.any_eq_true, Fin.exists_iff]

theorem Plan.breaksAt_iff {st : Station} :
    p.breaksAt st = true ↔ p.stations[st].enable = true ∧ p.decision.toNat ≤ p.stations[st].offset.toNat := by
  simp [Plan.breaksAt]

theorem Plan.pointFailure_eq_none_iff :
    p.pointFailure = none ↔ p.decision.toNat < p.rejectGate.toNat ∧ p.decision.toNat < p.reworkGate.toNat
      ∧ p.rejectGate.toNat + p.width.toNat ≤ p.exit.toNat ∧ p.reworkGate.toNat + p.width.toNat ≤ p.exit.toNat := by
  unfold Plan.pointFailure
  split_ifs <;> simp only [false_iff, true_iff] <;> omega

theorem Plan.firstFailure_of_noneEnabled (idle : ¬ p.enablesSome) : p.firstFailure = some (1, 0) := by
  rw [← Plan.any_enable_iff, Bool.not_eq_true] at idle
  simp [Plan.firstFailure, idle]

variable (enabled : p.enablesSome)
include enabled

/-- Past condition 1 the stations are searched in ascending order, then conditions 3 to 6 follow. -/
theorem Plan.firstFailure_of_enablesSome :
    p.firstFailure = match allStations.find? p.breaksAt with
      | some st => some (2, st.val)
      | none => p.pointFailure := by
  rw [Plan.firstFailure, Plan.any_enable_iff.mpr enabled]
  rfl

theorem Plan.firstFailure_of_breaksAt {st : Station} (broken : p.breaksAt st = true)
    (lowest : ∀ k, k < st → p.breaksAt k = false) : p.firstFailure = some (2, st.val) := by
  rw [Plan.firstFailure_of_enablesSome enabled, find?_allStations_eq_some_iff.mpr ⟨broken, lowest⟩]

theorem Plan.firstFailure_eq_pointFailure (kept : ∀ st, p.breaksAt st = false) : p.firstFailure = p.pointFailure := by
  rw [Plan.firstFailure_of_enablesSome enabled, find?_allStations_eq_none_iff.mpr kept]

end

/-- A plan is without failure exactly when all six conditions hold. -/
theorem Plan.firstFailure_eq_none_iff {p : Plan} :
    p.firstFailure = none ↔ p.enablesSome ∧ (∀ st, p.breaksAt st = false) ∧ p.pointFailure = none := by
  by_cases enabled : p.enablesSome
  case neg => simp [Plan.firstFailure_of_noneEnabled enabled, enabled]
  by_cases broken : ∃ st, p.breaksAt st = true
  case pos =>
    obtain ⟨st, here, lowest⟩ := (Fin.exists_eq_true_iff_exists_minimal_eq_true _).mp broken
    have failure := Plan.firstFailure_of_breaksAt enabled here lowest
    exact iff_of_false (by simp [failure]) fun ⟨_, kept, _⟩ => by simp [kept st] at here
  case neg =>
    have kept : ∀ st, p.breaksAt st = false := by simpa using broken
    simp [Plan.firstFailure_eq_pointFailure enabled kept, enabled, kept]

/-! ## The owner's answer (R46), by the first case that applies -/

section

variable {bank : Byte} {n : BankName} {s : State}

theorem answerCommitPlan_of_badBank (bad : 2 ≤ bank.toNat) : answerCommitPlan bank s = (s, .invalid, []) := by
  simp [answerCommitPlan, bankNameOf_eq_none_iff.mpr bad]

theorem answerCommitPlan_of_pending (pending : s.plans.pendingSwap = true) :
    answerCommitPlan n.code s = (s, .planPending, []) := by
  simp [answerCommitPlan, pending]

variable (settled : s.plans.pendingSwap = false)
include settled

theorem answerCommitPlan_of_failure {condition station : Nat} (failure : (planOf n s).firstFailure = some (condition, station)) :
    answerCommitPlan n.code s = (setValid n false s, .planInvalid, byte1 condition ++ byte1 station) := by
  simp [answerCommitPlan, settled, failure]

variable (sound : (planOf n s).firstFailure = none)
include sound

theorem answerCommitPlan_of_active (active : n = s.plans.active) :
    answerCommitPlan n.code s = (setValid n true s, .ok, [n.code, 0]) := by
  simp [answerCommitPlan, settled, sound, ← active, CommitOutcome.code]

variable (shadow : n ≠ s.plans.active)
include shadow

theorem answerCommitPlan_of_halt (halt : s.port.mode = .halt) :
    answerCommitPlan n.code s = (swapBanks (setValid n true s), .ok, [n.code, 1]) := by
  simp [answerCommitPlan, settled, sound, shadow, halt, CommitOutcome.code]

theorem answerCommitPlan_of_running (running : s.port.mode ≠ .halt) :
    answerCommitPlan n.code s = ({ setValid n true s with plans.pendingSwap := true }, .ok, [n.code, 2]) := by
  simp [answerCommitPlan, settled, sound, shadow, running, CommitOutcome.code]

end

/-! ## What a commit changes (R47) -/

theorem setValid_sendZeros (n : BankName) (v : Bool) (k : Nat) (s : State) :
    setValid n v (sendZeros k s) = sendZeros k (setValid n v s) :=
  updBank_sendZeros n _ k s

theorem BankName.other_eq_of_ne {n m : BankName} (h : n ≠ m) : m.other = n := by
  match n, m, h with
  | .a, .b, _ | .b, .a, _ => rfl
  | .a, .a, h | .b, .b, h => exact absurd rfl h

/-- A swap to the shadow bank just found valid: it is active, nothing is pending, and bit 1 of the flags is PLAN_SWAPPED. -/
theorem swapBanks_setValid_of_shadow {n : BankName} {s : State} (v : Bool) (shadow : n ≠ s.plans.active) :
    swapBanks (setValid n v s) = { setValid n v s with
      plans.active := n, plans.pendingSwap := false, port.flags := s.port.flags ||| (1#16 <<< 1) } := by
  have active : (setValid n v s).plans.active.other = n := by
    rw [setValid, updBank_plans_active, BankName.other_eq_of_ne shadow]
  rw [swapBanks, active]
  cases n <;> rfl

/-! ## The obligation -/

/-- COMMIT PLAN taken: three bytes have been sent, all 0, and the owner's answer is held under the request's code, 6. -/
theorem exec_commitPlan_of_free {s : State} (bank : Byte) (free : busy s = false) :
    exec (.commitPlan bank) s = .next (holdAnswer 6 (answerCommitPlan bank (sendZeros 3 s))) :=
  congrArg Host.Outcome.next (takeRequest_of_free s (.commitPlan bank) free)

/-- Settles O25: the first failing condition is the first branch of `firstFailure` that applies, and each case of R46 is one
case of the owner's answer, which reads none of the fields that the port's exchange changes. -/
theorem commitPlanCases : Obligations.CommitPlanCases := by
  unfold Obligations.CommitPlanCases
  refine ⟨fun p => ?conditions, fun n s free => ?cases⟩
  case conditions =>
    simp only [← Plan.breaksAt_iff, Bool.not_eq_true]
    refine ⟨?none, Plan.firstFailure_of_noneEnabled, fun _ enabled => Plan.firstFailure_of_breaksAt enabled,
      fun enabled kept => ?points⟩
    case none => rw [Plan.firstFailure_eq_none_iff, Plan.pointFailure_eq_none_iff]; rfl
    case points =>
      rw [Plan.firstFailure_eq_pointFailure enabled kept]
      simp +contextual [Plan.pointFailure, Nat.not_le.mpr]
  case cases =>
    simp only [← BankName.code_eq_ite, exec_commitPlan_of_free _ free]
    refine ⟨fun bank bad => ?badBank, fun pending => ?pending, fun settled => ⟨fun c st failure => ?failure, fun sound =>
      ⟨fun active => ?active, fun shadow halt => ?swapped, fun shadow running => ?waiting⟩⟩⟩
    case badBank => rw [answerCommitPlan_of_badBank bad]; rfl
    case pending => rw [answerCommitPlan_of_pending (s := sendZeros 3 s) pending]; rfl
    case failure =>
      rw [answerCommitPlan_of_failure (s := sendZeros 3 s) settled failure, setValid_sendZeros]
      rfl
    case active =>
      rw [answerCommitPlan_of_active (s := sendZeros 3 s) settled sound active, setValid_sendZeros]
      rfl
    case swapped =>
      rw [answerCommitPlan_of_halt (s := sendZeros 3 s) settled sound shadow halt,
        swapBanks_setValid_of_shadow (s := sendZeros 3 s) true shadow, setValid_sendZeros]
      rfl
    case waiting =>
      rw [answerCommitPlan_of_running (s := sendZeros 3 s) settled sound shadow running, setValid_sendZeros]
      rfl

end Sys2Proof.Machine
end

section
/-! WRITE PLAN (R43, R44) and READ PLAN (R50): the first field out of range, the owner's answers case by case, the layout
that both requests share, and the obligation. -/

namespace Sys2Proof.Machine

open Sys2Proof.Safety

/-! ## The first field out of range (R43, R192) -/

section

variable {p : PlanPayload}

theorem payloadFault_of_badBank (bad : 2 ≤ p.bank.toNat) : payloadFault p = some 0 := by
  simp [payloadFault, bankNameOf_eq_none_iff.mpr bad]

variable (named : p.bank.toNat ≤ 1)
include named

/-- Past the bank byte the flags bytes are searched in ascending order, then the width follows. -/
theorem payloadFault_of_named :
    payloadFault p = match allStations.find? fun st => decide (4 ≤ p.stations[st].flags.toNat) with
      | some st => some (1 + 5 * st.val)
      | none => if p.width = 0 then some 50 else none := by
  have known : bankNameOf p.bank.toNat ≠ none := mt bankNameOf_eq_none_iff.mp (by omega)
  exact if_neg (mt Option.isNone_iff_eq_none.mp known)

theorem payloadFault_of_badFlags {k : Station} (lowest : ∀ j : Station, j < k → p.stations[j].flags.toNat ≤ 3)
    (bad : 4 ≤ p.stations[k].flags.toNat) : payloadFault p = some (1 + 5 * k.val) := by
  have first : allStations.find? (fun st => decide (4 ≤ p.stations[st].flags.toNat)) = some k :=
    find?_allStations_eq_some_iff.mpr
      ⟨decide_eq_true bad, fun j below => decide_eq_false (Nat.not_le.mpr (Nat.lt_succ_of_le (lowest j below)))⟩
  rw [payloadFault_of_named named, first]

/-- With the bank and every flags byte in range only the width is left to check. -/
theorem payloadFault_of_goodFlags (good : ∀ st : Station, p.stations[st].flags.toNat ≤ 3) :
    payloadFault p = if p.width = 0 then some 50 else none := by
  have noneBad : allStations.find? (fun st => decide (4 ≤ p.stations[st].flags.toNat)) = none :=
    find?_allStations_eq_none_iff.mpr fun st => decide_eq_false (Nat.not_le.mpr (Nat.lt_succ_of_le (good st)))
  rw [payloadFault_of_named named, noneBad]

end

/-! ## The owner's answer to WRITE PLAN (R43, R44) -/

/-- The named bank replaced whole by the plan of a payload; it becomes INVALID (R44). -/
def replaceBank (n : BankName) (p : PlanPayload) (s : State) : State :=
  updBank n (fun b => { b with plan := payloadPlan p, valid := false }) s

theorem replaceBank_sendZeros (n : BankName) (p : PlanPayload) (k : Nat) (s : State) :
    replaceBank n p (sendZeros k s) = sendZeros k (replaceBank n p s) :=
  updBank_sendZeros n _ k s

theorem bankOf_replaceBank_same (n : BankName) (p : PlanPayload) (s : State) :
    bankOf n (replaceBank n p s) = { bankOf n s with plan := payloadPlan p, valid := false } :=
  bankOf_updBank_same s n _

theorem bankOf_replaceBank_other (n : BankName) (p : PlanPayload) (s : State) :
    bankOf n.other (replaceBank n p s) = bankOf n.other s :=
  bankOf_updBank_other s n _

theorem planOf_replaceBank (n : BankName) (p : PlanPayload) (s : State) : planOf n (replaceBank n p s) = payloadPlan p := by
  rw [planOf, bankOf_replaceBank_same]

/-- Outside the Plan Store a replaced bank changes nothing. -/
theorem replaceBank_eq_with_plans (n : BankName) (p : PlanPayload) (s : State) :
    replaceBank n p s = { s with plans := (replaceBank n p s).plans } := by
  cases n <;> rfl

theorem payloadPlan_station (p : PlanPayload) (st : Station) : (payloadPlan p).stations[st] = payloadStation p.stations[st] := by
  simp [payloadPlan]

section

variable {p : PlanPayload} {n : BankName} {s : State}

theorem answerWritePlan_of_fault {place : Nat} (fault : payloadFault p = some place) :
    answerWritePlan p s = (s, .invalid, byte1 place) := by
  simp [answerWritePlan, fault]

variable (sound : payloadFault p = none) (named : p.bank = n.code)
include sound named

theorem answerWritePlan_of_pending (pending : s.plans.pendingSwap = true) : answerWritePlan p s = (s, .planPending, []) := by
  simp [answerWritePlan, sound, named, pending]

variable (settled : s.plans.pendingSwap = false)
include settled

theorem answerWritePlan_of_inUse (used : n = s.plans.active ∨ 0 < (bankOf n s).inUse) :
    answerWritePlan p s = (s, .planInUse, []) := by
  simp [answerWritePlan, sound, named, settled, used]

theorem answerWritePlan_of_unused (shadow : n ≠ s.plans.active) (unused : (bankOf n s).inUse = 0) :
    answerWritePlan p s = (replaceBank n p s, .ok, [p.bank]) := by
  simp [answerWritePlan, sound, named, settled, shadow, unused, replaceBank]

end

/-! ## The layout that both requests share (12.7, 12.8) -/

theorem StationPayload.length_bytes (p : StationPayload) : p.bytes.length = 5 := rfl

theorem PlanPayload.length_bytes (p : PlanPayload) : p.bytes.length = 55 := by
  simp [PlanPayload.bytes, List.length_flatMap, StationPayload.length_bytes, split24, split16]

theorem bytes2_toNat (w : Word16) : bytes2 w.toNat = split16 w := by
  simp only [bytes2, split16, List.cons.injEq, and_true]
  refine ⟨?_, ?_⟩ <;> exact BitVec.eq_of_toNat_eq (by simp [Nat.shiftRight_eq_div_pow])

theorem bytes3_toNat (w : Word24) : bytes3 w.toNat = split24 w := by
  simp only [bytes3, split24, List.cons.injEq, and_true]
  refine ⟨?_, ?_, ?_⟩ <;> exact BitVec.eq_of_toNat_eq (by simp [Nat.shiftRight_eq_div_pow])

/-- A station of a plan as a WRITE PLAN payload would carry it. -/
def StationPlan.payload (q : StationPlan) : StationPayload :=
  { flags := (if q.enable then 1 else 0) + (if q.strobe then 2 else 0), offset := q.offset, exposure := q.exposure }

/-- A plan as a WRITE PLAN payload for a bank would carry it. -/
def Plan.payload (n : BankName) (q : Plan) : PlanPayload :=
  { bank := n.code, stations := q.stations.map StationPlan.payload, decision := q.decision, rejectGate := q.rejectGate,
    reworkGate := q.reworkGate, width := q.width, exit := q.exit }

/-- The two bits of a flags byte do not overlap. -/
theorem StationPlan.bytes_payload (q : StationPlan) : q.payload.bytes = q.bytes := by
  have flags : ((if q.enable then 1 else 0) ||| (if q.strobe then 2 else 0) : Byte)
      = (if q.enable then 1 else 0) + (if q.strobe then 2 else 0) := by
    cases q.enable <;> cases q.strobe <;> rfl
  rw [StationPlan.bytes, flags, bytes3_toNat]
  rfl

theorem Plan.bytes_payload (n : BankName) (q : Plan) : (q.payload n).bytes = q.bytes n := by
  have stations : (q.payload n).stations.toList.flatMap StationPayload.bytes = q.stations.toList.flatMap StationPlan.bytes := by
    simp only [Plan.payload, Vector.toList_map, List.flatMap_map, StationPlan.bytes_payload]
  simp only [PlanPayload.bytes, Plan.bytes, stations, bytes3_toNat, bytes2_toNat]
  rfl

theorem Plan.payload_station (n : BankName) (q : Plan) (st : Station) : (q.payload n).stations[st] = q.stations[st].payload := by
  simp [Plan.payload]

/-! ## The owner's answer to READ PLAN (R50) -/

theorem answerReadPlan_of_badBank {bank : Byte} {s : State} (bad : 2 ≤ bank.toNat) :
    answerReadPlan bank s = (s, .invalid, []) := by
  simp [answerReadPlan, bankNameOf_eq_none_iff.mpr bad]

/-- What READ PLAN answers behind the result: the payload, the validity, whether the bank is active, the pending-swap flag and
both in-use counts. -/
def planView (n : BankName) (s : State) : List Byte :=
  ((planOf n s).payload n).bytes
    ++ [if (bankOf n s).valid then 1 else 0, if s.plans.active = n then 1 else 0, if s.plans.pendingSwap then 1 else 0]
    ++ bytes2 s.plans.a.inUse ++ bytes2 s.plans.b.inUse

theorem answerReadPlan_of_named (n : BankName) (s : State) : answerReadPlan n.code s = (s, .ok, planView n s) := by
  simp [answerReadPlan, planView, Plan.bytes_payload, flagByte, @eq_comm _ n]

theorem planView_sendZeros (n : BankName) (k : Nat) (s : State) : planView n (sendZeros k s) = planView n s := by
  cases n <;> rfl

/-! ## The obligation -/

/-- WRITE PLAN taken: 57 bytes have been sent, all 0, and the owner's answer is held under the request's code, 5. -/
theorem exec_writePlan_of_free {s : State} (p : PlanPayload) (free : busy s = false) :
    exec (.writePlan p) s = .next (holdAnswer 5 (answerWritePlan p (sendZeros 57 s))) := by
  have length : (LineRequest.writePlan p).transaction.length = 57 :=
    congrArg (· + 2) (PlanPayload.length_bytes p)
  have answer := takeRequest_of_free s (.writePlan p) free
  rw [length] at answer
  exact congrArg Host.Outcome.next answer

theorem exec_writePlan_of_fault {s : State} {p : PlanPayload} {place : Nat} (free : busy s = false)
    (fault : payloadFault p = some place) : exec (.writePlan p) s = .next (taken 57 [5, 3, BitVec.ofNat 8 place] s) := by
  rw [exec_writePlan_of_free p free, answerWritePlan_of_fault fault]
  rfl

/-- READ PLAN taken: three bytes have been sent, all 0, and the owner's answer is held under the request's code, 7. -/
theorem exec_readPlan_of_free {s : State} (bank : Byte) (free : busy s = false) :
    exec (.readPlan bank) s = .next (holdAnswer 7 (answerReadPlan bank (sendZeros 3 s))) :=
  congrArg Host.Outcome.next (takeRequest_of_free s (.readPlan bank) free)

/-- Settles O24: the fields are checked in the order of the layout, before the Plan Store's state is read; a payload in range
meets one case of the owner's answer; and what READ PLAN answers is a payload that carries the plan, then the bank's state. -/
theorem writeAndReadPlanCases : Obligations.WriteAndReadPlanCases := by
  unfold Obligations.WriteAndReadPlanCases
  simp only [← BankName.code_eq_ite]
  refine ⟨fun p n s free named good wide => ?written, fun p s free => ?faulty, fun s free => ?read⟩
  case written =>
    have inRange : p.bank.toNat ≤ 1 := by rw [named]; cases n <;> decide
    have sound : payloadFault p = none := by
      rw [payloadFault_of_goodFlags inRange good, if_neg]
      rintro zero
      simp [zero] at wide
    rw [exec_writePlan_of_free p free]
    refine ⟨fun pending => ?pending, fun settled used => ?inUse, fun settled shadow unused => ⟨replaceBank n p s, ?replaced⟩⟩
    case pending => rw [answerWritePlan_of_pending (s := sendZeros 57 s) sound named pending]; rfl
    case inUse =>
      rw [← bankOf_sendZeros n 57 s] at used
      rw [answerWritePlan_of_inUse (s := sendZeros 57 s) sound named settled used]
      rfl
    case replaced =>
      refine ⟨?answer, replaceBank_eq_with_plans n p s, bankOf_replaceBank_other n p s, updBank_plans_active s n _,
        (updBank_plans_pendingSwap s n _).trans settled, ?state⟩
      case answer =>
        rw [← bankOf_sendZeros n 57 s] at unused
        rw [answerWritePlan_of_unused (s := sendZeros 57 s) sound named settled shadow unused, replaceBank_sendZeros]
        rfl
      case state =>
        rw [bankOf_replaceBank_same, planOf_replaceBank]
        exact ⟨rfl, unused, payloadPlan_station p, rfl, rfl, rfl, rfl, rfl⟩
  case faulty =>
    refine ⟨fun bad => exec_writePlan_of_fault free (payloadFault_of_badBank bad),
      fun k named lowest bad => exec_writePlan_of_fault free (payloadFault_of_badFlags named lowest bad),
      fun named good zero => exec_writePlan_of_fault free ?narrow⟩
    case narrow => rw [payloadFault_of_goodFlags named good, if_pos zero]
  case read =>
    refine ⟨fun bank bad => ?badBank, fun n => ⟨(planOf n s).payload n, ?view, rfl, rfl, rfl, rfl, rfl, rfl, fun st => ?station⟩⟩
    case badBank => rw [exec_readPlan_of_free bank free, answerReadPlan_of_badBank bad]; rfl
    case view =>
      rw [exec_readPlan_of_free n.code free, answerReadPlan_of_named, planView_sendZeros]
      rfl
    case station =>
      rw [Plan.payload_station]
      exact ⟨rfl, rfl, rfl⟩

end Sys2Proof.Machine
end

section
/-! VERDICT (R55, R56) and FORCE DECISION (R58, R59): the checks that both requests share, what an accepted one stores, the
two exchanges, and the obligation. -/

namespace Sys2Proof.Machine

open Sys2Proof.Safety

/-! ## The action byte (12.1) -/

@[simp] theorem actionOf_code (a : Action) : actionOf a.code.toNat = some a := by
  cases a <;> rfl

theorem actionOf_eq_none_iff {k : Nat} : actionOf k = none ↔ 3 ≤ k := by
  match k with
  | 0 | 1 | 2 | k + 3 => simp [actionOf]

/-! ## The checks that both requests share (R55, R58) -/

/-- A request of an action for an addressed item that takes only an undecided item which is not VOID: `decided` is the answer
to a decided one, `fill` stands between tag and decision in a refusal, and `accept` carries the request out. -/
def answerUndecided (decided : Result) (fill : List Byte) (accept : Action → Item → State × Result × List Byte)
    (mode : Byte) (n : Word16) (action : Byte) (s : State) : State × Result × List Byte :=
  match actionOf action.toNat, address mode n s with
  | none, _ => (s, .invalid, [])
  | some _, .outOfRange => (s, .invalid, [])
  | some _, .noItem => (s, .noItem, [])
  | some a, .found _ i =>
    if i.phase = .void then (s, .void, bytes2 i.tag.val ++ fill ++ decisionBytes i.decision)
    else if i.decision.isSome then (s, decided, bytes2 i.tag.val ++ fill ++ decisionBytes i.decision)
    else accept a i

section

variable {decided : Result} {fill : List Byte} {accept : Action → Item → State × Result × List Byte}
variable {mode : Byte} {n : Word16} {action : Byte} {s : State}

theorem answerUndecided_of_invalid (bad : 3 ≤ action.toNat ∨ address mode n s = .outOfRange) :
    answerUndecided decided fill accept mode n action s = (s, .invalid, []) := by
  unfold answerUndecided
  cases known : actionOf action.toNat with
  | none => rfl
  | some a =>
    have inRange : ¬ 3 ≤ action.toNat := mt actionOf_eq_none_iff.mpr (by simp [known])
    rw [bad.resolve_left inRange]

theorem answerUndecided_of_noItem (inRange : action.toNat ≤ 2) (missing : address mode n s = .noItem) :
    answerUndecided decided fill accept mode n action s = (s, .noItem, []) := by
  unfold answerUndecided
  cases known : actionOf action.toNat with
  | none => exact absurd (actionOf_eq_none_iff.mp known) (by omega)
  | some a => rw [missing]

variable {a : Action} {d : Nat} {i : Item} (known : a.code = action) (found : address mode n s = .found d i)
include known found

theorem answerUndecided_of_void (void : i.phase = .void) :
    answerUndecided decided fill accept mode n action s
      = (s, .void, bytes2 i.tag.val ++ fill ++ decisionBytes i.decision) := by
  simp [answerUndecided, ← known, found, void]

variable (live : i.phase ≠ .void)
include live

theorem answerUndecided_of_decided (done : i.decision ≠ none) :
    answerUndecided decided fill accept mode n action s
      = (s, decided, bytes2 i.tag.val ++ fill ++ decisionBytes i.decision) := by
  simp [answerUndecided, ← known, found, live, Option.isSome_iff_ne_none.mpr done]

theorem answerUndecided_of_open (undecided : i.decision = none) :
    answerUndecided decided fill accept mode n action s = accept a i := by
  simp [answerUndecided, ← known, found, live, undecided]

end

/-! ## What an accepted request stores (R56, R59) -/

/-- A VERDICT accepted: stored or revised, and answered with the revision count (R56). -/
def acceptVerdict (mask : Byte) (s : State) (a : Action) (i : Item) : State × Result × List Byte :=
  (updItem i.tag (fun j => { j with verdict := some (storedVerdict i.verdict a mask) }) s,
   if i.verdict.isSome then .revised else .ok,
   bytes2 i.tag.val ++ [(storedVerdict i.verdict a mask).revision] ++ [0, 0, 0])

theorem answerVerdict_eq (mode : Byte) (n : Word16) (action mask : Byte) (s : State) :
    answerVerdict mode n action mask s = answerUndecided .late [0] (acceptVerdict mask s) mode n action s :=
  rfl

/-- A FORCE DECISION accepted: stored, and answered with the force that it replaces (R59). -/
def acceptForce (s : State) (a : Action) (i : Item) : State × Result × List Byte :=
  (updItem i.tag (fun j => { j with force := some a }) s, .ok, bytes2 i.tag.val ++ actionBytes i.force ++ [0, 0, 0])

theorem answerForceDecision_eq (mode : Byte) (n : Word16) (action : Byte) (s : State) :
    answerForceDecision mode n action s = answerUndecided .tooLate [0, 0] (acceptForce s) mode n action s :=
  rfl

/-- The revision count adds 1 and stops at 255 (R56). -/
theorem nextRevision_eq (r : Byte) : nextRevision r = BitVec.ofNat 8 (min 255 (r.toNat + 1)) := by
  unfold nextRevision
  split
  case isTrue full => rw [full]; rfl
  case isFalse below =>
    have room : r.toNat + 1 ≤ 255 := by bv_omega
    rw [Nat.min_eq_right room, BitVec.ofNat_add, BitVec.ofNat_toNat, BitVec.setWidth_eq]
    rfl

theorem storedVerdict_none (a : Action) (mask : Byte) :
    storedVerdict none a mask = { action := a, failMask := mask, revision := 0 } :=
  rfl

theorem storedVerdict_some (v : Verdict) (a : Action) (mask : Byte) :
    storedVerdict (some v) a mask
      = { action := a, failMask := mask, revision := BitVec.ofNat 8 (min 255 (v.revision.toNat + 1)) } := by
  rw [storedVerdict, nextRevision_eq]

/-! ## The two exchanges (R163, R167; R175 to R177) -/

/-- VERDICT with the link UP: the block is heard, and what the Decision Unit answers is the reply. -/
theorem exec_verdict_of_answer {number mode : Byte} {n : Word16} {action mask : Byte} {s u : State} {r : Result}
    {body : List Byte} (up : s.link.state = .up) (whole : noPartial s)
    (answer : answerUndecided .late [0] (acceptVerdict mask (heard s)) mode n action (heard s) = (heard u, r, body)) :
    exec (.verdict number mode n action mask) s
      = .next (replied { kind := 1, number := number, result := r, body := body } u) := by
  refine congrArg Host.Outcome.next ?_
  rw [officeVerdict, beginBlock_of_noPartial _ whole, goodBlock_receiver, goodBlock_up _ _ up, dispatch_eq, answerVerdict_eq,
    answer, offerReply_eq]
  rfl

/-- FORCE DECISION taken: six bytes have been sent, all 0, and what the Decision Unit answers is held under the request's
code, 10. -/
theorem exec_forceDecision_of_answer {mode : Byte} {n : Word16} {action : Byte} {s u : State} {r : Result}
    {body : List Byte} (free : busy s = false)
    (answer : answerUndecided .tooLate [0, 0] (acceptForce (sendZeros 6 s)) mode n action (sendZeros 6 s)
      = (sendZeros 6 u, r, body)) :
    exec (.forceDecision mode n action) s = .next (taken 6 (10 :: r.code :: body) u) :=
  calc exec (.forceDecision mode n action) s
    _ = .next (holdAnswer 10 (answerForceDecision mode n action (sendZeros 6 s))) :=
      congrArg Host.Outcome.next (takeRequest_of_free s (.forceDecision mode n action) free)
    _ = .next (taken 6 (10 :: r.code :: body) u) := by
      rw [answerForceDecision_eq, answer, holdAnswer_sendZeros]

/-! ## The obligation -/

/-- Settles O26: each case of R55 and R58 is one case of the checks that both requests share, which read only the queue, and so
nothing that the exchange with the office or with the line port changes; what an accepted request stores is said by
`acceptVerdict` and `acceptForce`. -/
theorem verdictAndForceCases : Obligations.VerdictAndForceCases := by
  unfold Obligations.VerdictAndForceCases
  refine ⟨fun number mode n action mask s up whole => ?verdict, fun mode n action s free => ?force⟩
  case verdict =>
    refine ⟨fun bad => exec_verdict_of_answer up whole (answerUndecided_of_invalid (s := heard s) bad),
      fun inRange missing => exec_verdict_of_answer up whole (answerUndecided_of_noItem (s := heard s) inRange missing),
      fun a d i known found =>
        ⟨fun void => exec_verdict_of_answer up whole (answerUndecided_of_void (s := heard s) known found void),
          fun live done => exec_verdict_of_answer up whole (answerUndecided_of_decided (s := heard s) known found live done),
          fun live undecided first => exec_verdict_of_answer up whole ?first,
          fun v live undecided held => exec_verdict_of_answer up whole ?revised⟩⟩
    case first =>
      rw [answerUndecided_of_open (s := heard s) known found live undecided, acceptVerdict, first, storedVerdict_none]
      rfl
    case revised =>
      rw [answerUndecided_of_open (s := heard s) known found live undecided, acceptVerdict, held, storedVerdict_some]
      rfl
  case force =>
    refine ⟨fun bad => exec_forceDecision_of_answer free (answerUndecided_of_invalid (s := sendZeros 6 s) bad),
      fun inRange missing => exec_forceDecision_of_answer free (answerUndecided_of_noItem (s := sendZeros 6 s) inRange missing),
      fun a d i known found =>
        ⟨fun void => exec_forceDecision_of_answer free (answerUndecided_of_void (s := sendZeros 6 s) known found void),
          fun live done =>
            exec_forceDecision_of_answer free (answerUndecided_of_decided (s := sendZeros 6 s) known found live done),
          fun live undecided => exec_forceDecision_of_answer (r := .ok) free ?accepted⟩⟩
    case accepted =>
      rw [answerUndecided_of_open (s := sendZeros 6 s) known found live undecided]
      rfl

end Sys2Proof.Machine
end

section
/-! What a copy costs (R125): division rounded up, the bounds of a copy, and the obligation. -/

namespace Sys2Proof.Machine

/-! ## Division rounded up -/

section

variable {a b : Nat} (divisor : 0 < b)
include divisor

/-- The model's division is Mathlib's `a ⌈/⌉ b`, the least multiplier of the divisor that reaches the dividend. -/
theorem ceilDiv_le_iff {c : Nat} : ceilDiv a b ≤ c ↔ a ≤ b * c :=
  ceilDiv_le_iff_le_mul divisor

theorem le_mul_ceilDiv : a ≤ b * ceilDiv a b :=
  (ceilDiv_le_iff divisor).mp le_rfl

theorem ceilDiv_le_self : ceilDiv a b ≤ a :=
  (ceilDiv_le_iff divisor).mpr (Nat.le_mul_of_pos_left a divisor)

variable (positive : 0 < a)
include positive

theorem ceilDiv_pos : 0 < ceilDiv a b :=
  Nat.pos_of_mul_pos_left (positive.trans_le (le_mul_ceilDiv divisor))

/-- No smaller multiple of the divisor reaches the dividend. -/
theorem mul_pred_ceilDiv_lt : b * (ceilDiv a b - 1) < a :=
  lt_of_not_ge fun reached =>
    (Nat.pred_lt (ceilDiv_pos divisor positive).ne').not_ge ((ceilDiv_le_iff divisor).mpr reached)

end

/-! ## The bounds of a copy -/

theorem bytesPerPixel_pos (depth : Nat) : 0 < bytesPerPixel depth := by
  unfold bytesPerPixel
  split <;> decide

theorem bytesPerPixel_le_two (depth : Nat) : bytesPerPixel depth ≤ 2 := by
  unfold bytesPerPixel
  split <;> decide

section

variable {r : FrameRecord} {f : Nat} (factor : 0 < f)
include factor

theorem copyPayload_pos (wide : 1 ≤ r.width) (high : 1 ≤ r.height) : 0 < copyPayload r f :=
  Nat.mul_pos (Nat.mul_pos (ceilDiv_pos factor wide) (ceilDiv_pos factor high)) (bytesPerPixel_pos r.depth)

variable (width : r.width ≤ 8192) (height : r.height ≤ 8192)
include width height

/-- A copy has no more pixels than its frame, of at most two bytes each. -/
theorem copyPayload_le : copyPayload r f ≤ 2 ^ 27 :=
  calc copyPayload r f
    _ ≤ 8192 * 8192 * 2 :=
      Nat.mul_le_mul (Nat.mul_le_mul ((ceilDiv_le_self factor).trans width) ((ceilDiv_le_self factor).trans height))
        (bytesPerPixel_le_two r.depth)
    _ = 2 ^ 27 := by decide

/-- At most 2^27 bytes of payload go in at most 2^14 segments, whose headers add at most 2^19 bytes. -/
theorem wireBytes_lt : wireBytes r f < 2 ^ 28 := by
  have payload : copyPayload r f ≤ 2 ^ 27 := copyPayload_le factor width height
  have segments : dataSegments (copyPayload r f) ≤ 2 ^ 14 :=
    (ceilDiv_le_iff (by decide)).mpr (payload.trans (by decide))
  unfold wireBytes
  omega

end

/-! ## The obligation -/

/-- Settles O40: each size, the count of segments and the send time are one division rounded up, and the bound follows from
those of the frame. -/
theorem copyCostsAreTheRule : Obligations.CopyCostsAreTheRule := by
  unfold Obligations.CopyCostsAreTheRule
  intro r f rate wide width high height _ factors lane b p k
  have factor : 0 < f := by
    simp only [List.mem_cons, List.not_mem_nil, or_false] at factors
    omega
  have payload : 0 < p := copyPayload_pos factor wide high
  have segment : 0 < Config.maxSegmentPayload := by decide
  have wire : 0 < wireBytes r f := by
    unfold wireBytes
    omega
  exact ⟨⟨le_mul_ceilDiv factor, mul_pred_ceilDiv_lt factor wide⟩,
    ⟨le_mul_ceilDiv factor, mul_pred_ceilDiv_lt factor high⟩,
    rfl,
    ⟨ceilDiv_pos segment payload, mul_pred_ceilDiv_lt segment payload, le_mul_ceilDiv segment⟩,
    rfl, wireBytes_lt factor width height,
    ⟨le_mul_ceilDiv lane, mul_pred_ceilDiv_lt lane wire⟩⟩

end Sys2Proof.Machine
end

section
/-! FETCH REGION (R137): the owner's answer by the first case that applies, the office's exchange, and the obligation. -/

namespace Sys2Proof.Machine

open Sys2Proof.Safety

/-! ## A block that the office sends and an owner answers (R163, R167) -/

/-- A whole block with the link UP is heard, and what its owner answers is the reply. -/
theorem goodBlock_beginBlock_of_answer {owner : State → State × Result × List Byte} {kind number : Byte} {s u : State}
    {r : Result} {body : List Byte} (up : s.link.state = .up) (whole : noPartial s)
    (answer : owner (heard s) = (heard u, r, body)) :
    goodBlock (dispatch kind number owner) (beginBlock s)
      = replied { kind := kind, number := number, result := r, body := body } u := by
  rw [beginBlock_of_noPartial s whole, goodBlock_receiver, goodBlock_up _ _ up, dispatch_eq, answer, offerReply_eq]
  rfl

/-! ## The owner's answer (R137), by the first case that applies -/

theorem not_mem_factors_iff {factor : Byte} :
    factor ∉ [(1 : Byte), 2, 4] ↔ factor ≠ 1 ∧ factor ≠ 2 ∧ factor ≠ 4 := by
  simp

/-- The region that a request asks of a record joins the region queue's tail (R137). -/
def regionAsked (number : Byte) (id : FrameId) (q : Rect) (factor : Byte) (s : State) : State :=
  { s with uplink.regions := s.uplink.regions ++
      [{ number := number, frame := id, tag := (frameOf id s).tag, station := (frameOf id s).station, rect := q,
         factor := factor.toNat }] }

section

variable {number : Byte} {frame tag x y w h : Word16} {factor : Byte} {s : State}

theorem answerFetchRegion_of_invalid (bad : 1023 < frame.toNat ∨ 1023 < tag.toNat ∨ factor ∉ [(1 : Byte), 2, 4]) :
    answerFetchRegion number frame tag x y w h factor s = (s, .invalid, []) := by
  rw [not_mem_factors_iff] at bad
  exact if_pos bad

variable {id : FrameId} (named : id.val = frame.toNat) (tagged : tag.toNat ≤ 1023) (offered : factor ∈ [(1 : Byte), 2, 4])
include named tagged offered

/-- Past the checks of the fields the answer is that of the record named. -/
theorem answerFetchRegion_of_valid :
    answerFetchRegion number frame tag x y w h factor s =
      let r := frameOf id s
      let q := clampRect r x y w h
      if r.state = .free ∨ r.tag.val ≠ tag.toNat then (s, .gone, [])
      else if r.state = .filling then (s, .noFrame, [])
      else if q.w = 0 ∨ q.h = 0 then (s, .empty, [])
      else if 16 ≤ s.uplink.regions.length then (s, .full, [])
      else (regionAsked number id q factor s, .ok, q.bytes) := by
  have good : ¬ (1023 < frame.toNat ∨ 1023 < tag.toNat ∨ (factor ≠ 1 ∧ factor ≠ 2 ∧ factor ≠ 4)) := by
    rw [← not_mem_factors_iff, ← named]
    have := id.isLt
    rintro (_ | _ | missing)
    · omega
    · omega
    · exact missing offered
  have found : Fin.ofNat 1024 frame.toNat = id := by
    rw [← named]
    exact Fin.ofNat_val_eq_self id
  rw [answerFetchRegion, if_neg good, found]
  rfl

theorem answerFetchRegion_of_gone (gone : (frameOf id s).state = .free ∨ (frameOf id s).tag.val ≠ tag.toNat) :
    answerFetchRegion number frame tag x y w h factor s = (s, .gone, []) :=
  (answerFetchRegion_of_valid named tagged offered).trans (if_pos gone)

variable (matched : (frameOf id s).tag.val = tag.toNat)
include matched

theorem answerFetchRegion_of_filling (filling : (frameOf id s).state = .filling) :
    answerFetchRegion number frame tag x y w h factor s = (s, .noFrame, []) := by
  simp [answerFetchRegion_of_valid named tagged offered, matched, filling]

variable (ready : (frameOf id s).state = .ready)
include ready

theorem answerFetchRegion_of_empty
    (empty : (clampRect (frameOf id s) x y w h).w = 0 ∨ (clampRect (frameOf id s) x y w h).h = 0) :
    answerFetchRegion number frame tag x y w h factor s = (s, .empty, []) := by
  simp [answerFetchRegion_of_valid named tagged offered, matched, ready, empty]

variable (wide : 0 < (clampRect (frameOf id s) x y w h).w) (high : 0 < (clampRect (frameOf id s) x y w h).h)
include wide high

theorem answerFetchRegion_of_full (full : 16 ≤ s.uplink.regions.length) :
    answerFetchRegion number frame tag x y w h factor s = (s, .full, []) := by
  simp [answerFetchRegion_of_valid named tagged offered, matched, ready, wide.ne', high.ne', full]

theorem answerFetchRegion_of_room (room : s.uplink.regions.length < 16) :
    answerFetchRegion number frame tag x y w h factor s
      = (regionAsked number id (clampRect (frameOf id s) x y w h) factor s, .ok, (clampRect (frameOf id s) x y w h).bytes) := by
  simp [answerFetchRegion_of_valid named tagged offered, matched, ready, wide.ne', high.ne', room]

end

/-! ## The obligation -/

/-- FETCH REGION with the link UP: the block is heard, and what the Uplink Scheduler answers is the reply. -/
theorem exec_fetchRegion_of_answer {number : Byte} {frame tag x y w h : Word16} {factor : Byte} {s u : State} {r : Result}
    {body : List Byte} (up : s.link.state = .up) (whole : noPartial s)
    (answer : answerFetchRegion number frame tag x y w h factor (heard s) = (heard u, r, body)) :
    exec (.fetchRegion number frame tag x y w h factor) s
      = .next (replied { kind := 4, number := number, result := r, body := body } u) :=
  congrArg Host.Outcome.next (goodBlock_beginBlock_of_answer up whole answer)

/-- Settles O46: each case of R137 is one case of the owner's answer, which reads the frame table and the region queue alone,
and so nothing that hearing a block changes. -/
theorem fetchRegionCases : Obligations.FetchRegionCases := by
  unfold Obligations.FetchRegionCases
  intro number frame tag x y w h factor s up whole answer
  have reply {u : State} {r : Result} {body : List Byte} :
      answerFetchRegion number frame tag x y w h factor (heard s) = (heard u, r, body) → answer r body u :=
    exec_fetchRegion_of_answer up whole
  exact ⟨fun bad => reply (answerFetchRegion_of_invalid bad), fun id named tagged offered =>
    ⟨fun gone => reply (answerFetchRegion_of_gone (s := heard s) named tagged offered gone),
      fun matched filling => reply (answerFetchRegion_of_filling (s := heard s) named tagged offered matched filling),
      fun matched ready empty => reply (answerFetchRegion_of_empty (s := heard s) named tagged offered matched ready empty),
      fun matched ready wide high full =>
        reply (answerFetchRegion_of_full (s := heard s) named tagged offered matched ready wide high full),
      fun matched ready wide high room =>
        reply (answerFetchRegion_of_room (s := heard s) named tagged offered matched ready wide high room)⟩⟩

end Sys2Proof.Machine
end

section
/-! The Line Port's own reads and event requests (R179, R183 to R185): a request taken and answered, the attention output, what
each owner's answer is, and the obligation. -/

namespace Sys2Proof.Machine

open Sys2Proof.Safety

/-! ## A request that the port takes and its owner answers (R176, R177) -/

/-- What the owner answers behind the exchange's zeros is the answer held, under the request's own code. -/
theorem takeRequest_of_answer {r : LineRequest} {n : Nat} {s t : State} {result : Result} {body : List Byte}
    (free : busy s = false) (length : r.transaction.length = n)
    (answer : answerTaken r (sendZeros n s) = (sendZeros n t, result, body)) :
    takeRequest r s = taken n (r.code :: result.code :: body) t := by
  rw [takeRequest_of_free s r free, length, answer, holdAnswer_sendZeros]

/-! ## The attention output (R184) -/

/-- A flag and its enable at the same place are a set bit of the two words' conjunction. -/
theorem attention_iff {s : State} :
    attention s = true ↔ ∃ k : Fin 16, s.port.flags.getLsbD k = true ∧ s.port.enables.getLsbD k = true := by
  rw [attention, bne_iff_ne, ne_eq, BitVec.eq_of_getLsbD_eq_iff]
  simp only [not_forall, Fin.exists_iff]
  exact exists₂_congr fun k inWidth => by simp

/-! ## READ STATUS (R179) -/

theorem answerReadStatus_sendZeros (n : Nat) (s : State) :
    answerReadStatus (sendZeros n s) = (sendZeros n { s with port.resetSeen := false }, .ok, readStatusBody s) :=
  rfl

/-- RESET_SEEN is shown as it stood, and clear once the request is taken. -/
theorem exec_readStatus_of_free {s : State} (free : busy s = false) :
    exec .readStatus s = .next (taken 2 (1 :: 0 :: readStatusBody s) { s with port.resetSeen := false }) :=
  congrArg Host.Outcome.next (takeRequest_of_answer (r := .readStatus) free rfl (answerReadStatus_sendZeros 2 s))

/-! ## The event requests (R183, R184) -/

/-- The answer carries the flags and enables as they stand in the state that the request leaves. -/
theorem withEvents_sendZeros (n : Nat) (t : State) : withEvents (sendZeros n t) = (sendZeros n t, .ok, eventsBody t) :=
  rfl

section

variable {s : State} (free : busy s = false) (w : Word16)
include free

theorem exec_readEvents_of_free : exec .readEvents s = .next (taken 2 (14 :: 0 :: eventsBody s) s) :=
  congrArg Host.Outcome.next (takeRequest_of_answer (r := .readEvents) free rfl (withEvents_sendZeros 2 s))

theorem exec_clearEvents_of_free :
    let t : State := { s with port.flags := s.port.flags &&& ~~~w }
    exec (.clearEvents w) s = .next (taken 4 (15 :: 0 :: eventsBody t) t) := by
  intro t
  exact congrArg Host.Outcome.next (takeRequest_of_answer (r := .clearEvents w) free rfl (withEvents_sendZeros 4 t))

theorem exec_setEvents_of_free :
    let t : State := { s with port.flags := s.port.flags ||| w }
    exec (.setEvents w) s = .next (taken 4 (16 :: 0 :: eventsBody t) t) := by
  intro t
  exact congrArg Host.Outcome.next (takeRequest_of_answer (r := .setEvents w) free rfl (withEvents_sendZeros 4 t))

theorem exec_setEventEnables_of_free :
    let t : State := { s with port.enables := w }
    exec (.setEventEnables w) s = .next (taken 4 (17 :: 0 :: eventsBody t) t) := by
  intro t
  exact congrArg Host.Outcome.next (takeRequest_of_answer (r := .setEventEnables w) free rfl (withEvents_sendZeros 4 t))

end

/-! ## READ COUNTS (R185, R192) -/

/-- Each count of the body stands as its two bytes. -/
theorem countsBody_eq (s : State) : countsBody s = s.port.counts.toList.flatMap split16 := by
  simp only [countsBody, bytes2_toNat]

theorem answerReadCounts_zero_sendZeros (n : Nat) (s : State) :
    answerReadCounts 0 (sendZeros n s) = (sendZeros n s, .ok, countsBody s) :=
  rfl

theorem answerReadCounts_one_sendZeros (n : Nat) (s : State) :
    answerReadCounts 1 (sendZeros n s)
      = (sendZeros n { s with port.counts := Vector.replicate 14 0 }, .ok, countsBody s) :=
  rfl

theorem answerReadCounts_of_invalid {choice : Byte} {s : State} (bad : 2 ≤ choice.toNat) :
    answerReadCounts choice s = (s, .invalid, []) := by
  have notKeep : choice ≠ 0 := by rintro rfl; simp at bad
  have notClear : choice ≠ 1 := by rintro rfl; simp at bad
  rw [answerReadCounts, if_neg notKeep, if_neg notClear]

section

variable {s : State} (free : busy s = false)
include free

/-- The choice 0 reads the counts and leaves them. -/
theorem exec_readCounts_zero : exec (.readCounts 0) s = .next (taken 3 (18 :: 0 :: countsBody s) s) :=
  congrArg Host.Outcome.next (takeRequest_of_answer (r := .readCounts 0) free rfl (answerReadCounts_zero_sendZeros 3 s))

/-- The choice 1 reads the counts as they stood and clears them in the same step. -/
theorem exec_readCounts_one :
    exec (.readCounts 1) s = .next (taken 3 (18 :: 0 :: countsBody s) { s with port.counts := Vector.replicate 14 0 }) :=
  congrArg Host.Outcome.next (takeRequest_of_answer (r := .readCounts 1) free rfl (answerReadCounts_one_sendZeros 3 s))

theorem exec_readCounts_of_invalid {choice : Byte} (bad : 2 ≤ choice.toNat) :
    exec (.readCounts choice) s = .next (taken 3 [18, 3] s) :=
  congrArg Host.Outcome.next
    (takeRequest_of_answer (r := .readCounts choice) free rfl (answerReadCounts_of_invalid bad))

end

/-! ## The obligation -/

/-- Settles O58: each request is taken with its owner's answer, whose body is the model's own status, events or counts body;
attention is the common bits of flags and enables. -/
theorem statusEventsAndCounts : Obligations.StatusEventsAndCounts := by
  unfold Obligations.StatusEventsAndCounts
  refine ⟨fun s free => exec_readStatus_of_free free, fun w s free => ?events, fun choice s free => ?counts⟩
  case events =>
    exact ⟨exec_readEvents_of_free free, exec_clearEvents_of_free free w, exec_setEvents_of_free free w,
      exec_setEventEnables_of_free free w, attention_iff⟩
  case counts =>
    have keep := exec_readCounts_zero free
    have clear := exec_readCounts_one free
    rw [countsBody_eq] at keep clear
    exact ⟨keep, clear, exec_readCounts_of_invalid free⟩

end Sys2Proof.Machine
end

section
/-! The check of a trigger word (R189): a built word as its fields above their check, what the fields read back as, the header
fault of an echo whose check does not agree (R87, R88), and the obligation. -/

namespace Sys2Proof.Machine

open Sys2Proof.Safety

/-! ## A built word: its four fields above their check (12.2) -/

/-- The upper 20 bits of a trigger word: tag, bank, strobe request and exposure code. -/
def triggerFields (tag : Tag) (bank : BankName) (strobe : Bool) (exposure : Byte) : BitVec 20 :=
  BitVec.ofNat 10 tag.val ++ bank.bit ++ BitVec.ofBool strobe ++ exposure

/-- Above the check, any part of a word is a part of its upper 20 bits. -/
theorem extractLsb'_word {start len : Nat} (above : 4 ≤ start) (fields : BitVec 20) (low : BitVec 4) :
    ((fields ++ low : Word24)).extractLsb' start len = fields.extractLsb' (start - 4) len :=
  BitVec.extractLsb'_append_eq_of_le above

/-- Above the check, any bit of a word is a bit of its upper 20 bits. -/
theorem getLsbD_word {k : Nat} (above : 4 ≤ k) (fields : BitVec 20) (low : BitVec 4) :
    ((fields ++ low : Word24)).getLsbD k = fields.getLsbD (k - 4) := by
  rw [BitVec.getLsbD_append, if_neg (Nat.not_lt.mpr above)]

/-- The five groups lie above bits 3 to 0, so what stands there does not enter the check. -/
theorem triggerCheck_append (fields : BitVec 20) (low other : BitVec 4) :
    triggerCheck (fields ++ low) = triggerCheck (fields ++ other) := by
  simp only [triggerCheck, extractLsb'_word, Nat.reduceLeDiff]

theorem triggerWord_eq_append (tag : Tag) (bank : BankName) (strobe : Bool) (exposure : Byte) :
    triggerWord tag bank strobe exposure =
      triggerFields tag bank strobe exposure ++ triggerCheck (triggerWordBody tag bank strobe exposure) := by
  have split (fields : BitVec 20) (c : BitVec 4) : (fields ++ 0#4 : Word24) ||| c.setWidth 24 = fields ++ c := by
    rw [BitVec.setWidth_eq_append (by decide), BitVec.cast_eq]
    exact BitVec.or_append.trans (by rw [BitVec.or_zero, BitVec.zero_or])
  exact split _ _

/-- The check agrees in every word that is built (R189). -/
theorem triggerWord_check (tag : Tag) (bank : BankName) (strobe : Bool) (exposure : Byte) :
    (triggerWord tag bank strobe exposure).extractLsb' 0 4 = triggerCheck (triggerWord tag bank strobe exposure) := by
  rw [triggerWord_eq_append, BitVec.extractLsb'_append_eq_right]
  exact triggerCheck_append _ _ _

/-! ## What the fields of a built word read back as -/

section

variable (tag : Tag) (bank : BankName) (strobe : Bool) (exposure : Byte)

theorem triggerWord_exposure : (triggerWord tag bank strobe exposure).extractLsb' 4 8 = exposure := by
  rw [triggerWord_eq_append, extractLsb'_word (by decide)]
  exact BitVec.extractLsb'_append_eq_right

theorem triggerWord_strobe : (triggerWord tag bank strobe exposure).getLsbD 12 = strobe := by
  rw [triggerWord_eq_append, getLsbD_word (by decide)]
  simp only [triggerFields, BitVec.getLsbD_append, Nat.reduceSub, Nat.reduceLT, if_true, if_false]
  exact BitVec.getLsbD_ofBool strobe 0

theorem triggerWord_bank : (triggerWord tag bank strobe exposure).getLsbD 13 = (bank == .b) := by
  rw [triggerWord_eq_append, getLsbD_word (by decide)]
  simp only [triggerFields, BitVec.getLsbD_append, Nat.reduceSub, Nat.reduceLT, if_true, if_false]
  cases bank <;> rfl

theorem triggerWord_tag : (triggerWord tag bank strobe exposure).extractLsb' 14 10 = BitVec.ofNat 10 tag.val := by
  rw [triggerWord_eq_append, extractLsb'_word (by decide), triggerFields,
    BitVec.extractLsb'_append_eq_of_le (by decide), BitVec.extractLsb'_append_eq_of_le (by decide)]
  exact BitVec.extractLsb'_append_eq_left

theorem wordTag_triggerWord : wordTag (triggerWord tag bank strobe exposure) = tag := by
  rw [wordTag, triggerWord_tag, BitVec.toFin_ofNat]
  exact Fin.ofNat_val_eq_self tag

theorem wordBank_triggerWord : wordBank (triggerWord tag bank strobe exposure) = bank := by
  rw [wordBank, triggerWord_bank]
  cases bank <;> rfl

end

/-! ## One port's parser and FIFO -/

theorem setParser_eq_withPort (p : Station) (q : Parser) (s : State) :
    setParser p q s = withPort p q s.ingest.ports[p].fifo s :=
  rfl

theorem setParser_self (p : Station) (s : State) : setParser p s.ingest.ports[p].parser s = s :=
  congrArg (fun ports => { s with ingest.ports := ports }) (Vector.set_getElem_self p.isLt)

theorem setParser_setParser (p : Station) (q r : Parser) (s : State) :
    setParser p r (setParser p q s) = setParser p r s := by
  simp [setParser, updPort]

/-! ## A header fault (R87, R88) -/

/-- A header fault is noted: flag bit 11, count 4 (R183, R185). -/
theorem headerFault_eq (s : State) : headerFault s = noted 11 4 s := by
  simp only [headerFault, bump, countUp_eq]
  rfl

/-- A header that begins between frames leaves the parser in HEADER with no byte come (R87). -/
theorem beginHeader_of_betweenFrames {p : Station} {s : State} (between : betweenFrames p s) :
    beginHeader p s = setParser p (.header []) s := by
  obtain hunt | discard | begun := between
  · simp only [beginHeader, syncPattern, hunt]
  · simp only [beginHeader, syncPattern, discard]
  · rw [← begun, setParser_self]
    simp only [beginHeader, begun]

/-- R88, check 1: an echo whose check does not agree fails it, whatever the other fields hold. -/
theorem headerFieldsOk_of_disagree {w : Word24} (disagree : w.extractLsb' 0 4 ≠ triggerCheck w) (width height depth : Nat) :
    headerFieldsOk w width height depth = false := by
  have fails : checkAgrees w = false := beq_eq_false_iff_ne.mpr disagree
  simp only [headerFieldsOk, fails, Bool.false_and]

theorem exec_frameHeader_complete (p : Station) (w : Word24) (width height : Word16) (depth : Byte) (s : State) :
    exec (.frameHeader p (.complete w width height depth)) s =
      .next (headerArrived p w width.toNat height.toNat depth.toNat (beginHeader p s)) :=
  rfl

/-- A header that begins between frames and fails check 1 is discarded as a header fault (R88). -/
theorem exec_frameHeader_of_badFields {p : Station} {s : State} {w : Word24} {width height : Word16} {depth : Byte}
    (between : betweenFrames p s) (bad : headerFieldsOk w width.toNat height.toNat depth.toNat = false) :
    exec (.frameHeader p (.complete w width height depth)) s =
      .next (withPort p .discard s.ingest.ports[p].fifo (noted 11 4 s)) := by
  rw [exec_frameHeader_complete]
  congr 1
  calc headerArrived p w width.toNat height.toNat depth.toNat (beginHeader p s)
      = setParser p .discard (headerFault (beginHeader p s)) := by rw [headerArrived, bad]; rfl
    _ = setParser p .discard (setParser p (.header []) (headerFault s)) := by
        rw [beginHeader_of_betweenFrames between]; rfl
    _ = setParser p .discard (noted 11 4 s) := by rw [setParser_setParser, headerFault_eq]

/-! ## The obligation -/

/-- Settles O29: a built word is its fields above their check, from which each field reads back; an echo that disagrees fails
the first header check; the manual's word is computed. -/
theorem triggerCheckIsTheExclusiveOr : Obligations.TriggerCheckIsTheExclusiveOr := by
  unfold Obligations.TriggerCheckIsTheExclusiveOr
  refine ⟨fun tag bank strobe exposure => ?built, fun p w width height depth s between disagree => ?echo, ?manual⟩
  case built =>
    exact ⟨triggerWord_check tag bank strobe exposure, triggerWord_tag tag bank strobe exposure,
      triggerWord_bank tag bank strobe exposure, triggerWord_strobe tag bank strobe exposure,
      triggerWord_exposure tag bank strobe exposure, wordTag_triggerWord tag bank strobe exposure,
      wordBank_triggerWord tag bank strobe exposure⟩
  case echo => exact exec_frameHeader_of_badFields between (headerFieldsOk_of_disagree disagree _ _ _)
  case manual => decide

end Sys2Proof.Machine
end

section
/-! What an ordinary event leaves as it was. Most of what the units do is neither a reset nor a request that writes mode,
settings, enables, plans, flags or counts: `Ordinary` says of such a change, once for all units, what it keeps, and the
statements about every command are read off it. -/

namespace Sys2Proof.Machine

open Sys2Proof.Safety

/-! ## The relation -/

/-- Flags stay set and counts do not fall (R183, R185). -/
structure Grows (s t : State) : Prop where
  flags : s.port.flags ||| t.port.flags = t.port.flags
  counts : ∀ k : Fin 14, s.port.counts[k].toNat ≤ t.port.counts[k].toNat

/-- The queue loses records from its head alone, the others keep tag, bank and entry position, and decisions stay (R2, R53);
the in-use counts follow (R42). -/
structure QueueRuns (s t : State) : Prop where
  nextTag : t.queue.nextTag = s.queue.nextTag
  drops : ∃ k, t.queue.items.map identity = (s.queue.items.map identity).drop k
  inUse : InUseCounted s → InUseCounted t
  decided : (s.queue.items.map Item.tag).Nodup →
    ∀ i ∈ s.queue.items, ∀ j ∈ t.queue.items, j.tag = i.tag → ∀ d, i.decision = some d → j.decision = some d

/-- The bounds of `WithinBounds` on what neither the item queue nor the Position Unit holds. -/
structure Roomy (s : State) : Prop where
  triggers : ∀ st : Station, s.trig[st].queue.length ≤ 4
  fifos : ∀ p : Station, (s.ingest.ports[p].fifo.flatMap FifoFrame.bytes).length ≤ 262144
  parsers : ∀ p : Station, parserBound s.ingest.ports[p].parser = true
  receiver : receiverBound s.link.receiver = true
  regions : s.uplink.regions.length ≤ 16
  reports : s.uplink.reports.length ≤ 64
  replies : s.uplink.replies.length ≤ 16
  goodRun : s.link.goodRun ≤ 4

/-- A record that is in use and kept by a mark of either master (R113). -/
def FrameRecord.isKept (r : FrameRecord) : Prop :=
  r.state ≠ .free ∧ (r.k0 = true ∨ r.k1 = true)

/-- `r'` is in use where `r` is, belongs to the same item and station, and has lost no mark (R115). -/
structure Retains (r r' : FrameRecord) : Prop where
  state : r.state ≠ .free → r'.state ≠ .free
  tag : r'.tag = r.tag
  bank : r'.bank = r.bank
  station : r'.station = r.station
  k0 : r.k0 = true → r'.k0 = true
  k1 : r.k1 = true → r'.k1 = true

/-- Every frame on the reclaim list is evictable (R116). -/
def ReclaimSound (s : State) : Prop :=
  ∀ id ∈ s.store.reclaim, (frameOf id s).evictable = true

/-- The reclaim list stays sound, and the kept records are retained. -/
def Guards (s t : State) : Prop :=
  ReclaimSound s → ReclaimSound t ∧ ∀ id, (frameOf id s).isKept → Retains (frameOf id s) (frameOf id t)

/-- An ordinary event: what it keeps as it was, what only grows, and how queue, bounds and kept frames fare. -/
structure Ordinary (s t : State) : Prop where
  pos : t.pos = s.pos
  mem : t.store.mem = s.store.mem
  lamp : t.gates.lamp = s.gates.lamp
  linkState : t.link.state = s.link.state
  port : t.port = { s.port with flags := t.port.flags, counts := t.port.counts }
  plans : t.plans = { s.plans with a.inUse := t.plans.a.inUse, b.inUse := t.plans.b.inUse }
  freeCtr : t.freeCtr = s.freeCtr
  pending : t.pending = s.pending
  grows : Grows s t
  queue : QueueRuns s t
  roomy : Roomy s → Roomy t
  guards : Guards s t

/-! ## Reflexive and transitive -/

theorem Grows.of_port_eq {s t : State} (flags : t.port.flags = s.port.flags) (counts : t.port.counts = s.port.counts) :
    Grows s t :=
  ⟨by rw [flags, BitVec.or_self], fun _ => by rw [counts]⟩

theorem Grows.trans {s t u : State} (h : Grows s t) (g : Grows t u) : Grows s u :=
  ⟨by rw [← g.flags, ← BitVec.or_assoc, h.flags], fun k => (h.counts k).trans (g.counts k)⟩

theorem tags_eq_map_identity (l : List Item) : l.map Item.tag = (l.map identity).map Prod.fst := by
  simp [identity, Function.comp_def]

/-- A record that is still in the queue was there before. -/
theorem QueueRuns.exists_before {s t : State} (h : QueueRuns s t) {j : Item} (member : j ∈ t.queue.items) :
    ∃ i ∈ s.queue.items, identity i = identity j := by
  obtain ⟨k, drop⟩ := h.drops
  have : identity j ∈ (s.queue.items.map identity).drop k := drop ▸ List.mem_map_of_mem member
  simpa using List.mem_of_mem_drop this

theorem QueueRuns.tags_nodup {s t : State} (h : QueueRuns s t) (distinct : (s.queue.items.map Item.tag).Nodup) :
    (t.queue.items.map Item.tag).Nodup := by
  obtain ⟨k, drop⟩ := h.drops
  rw [tags_eq_map_identity] at distinct ⊢
  rw [drop, List.map_drop]
  exact distinct.sublist (List.drop_sublist _ _)

theorem QueueRuns.length_le {s t : State} (h : QueueRuns s t) : t.queue.items.length ≤ s.queue.items.length := by
  obtain ⟨k, drop⟩ := h.drops
  simpa using (congrArg List.length drop).le.trans (by simp)

/-- The records of `t` are those of `s`, each changed by `f`, which keeps identities; a decision is kept where tags are
distinct. -/
theorem QueueRuns.of_map {s t : State} (f : Item → Item) (items : t.queue.items = s.queue.items.map f)
    (nextTag : t.queue.nextTag = s.queue.nextTag) (inUse : ∀ n, (bankOf n t).inUse = (bankOf n s).inUse)
    (same : ∀ i, identity (f i) = identity i)
    (kept : (s.queue.items.map Item.tag).Nodup → ∀ i ∈ s.queue.items, ∀ d, i.decision = some d → (f i).decision = some d) :
    QueueRuns s t where
  nextTag := nextTag
  drops := ⟨0, by simp [items, Function.comp_def, same]⟩
  inUse counted n := by
    have bank : ∀ i, (f i).bank = i.bank := fun i => congrArg (fun x => x.2.1) (same i)
    simp [inUse, items, counted n, List.countP_map, Function.comp_def, bank]
  decided distinct i member j found tags d decision := by
    obtain ⟨k, present, rfl⟩ := List.mem_map.mp (items ▸ found)
    have : k = i := List.inj_on_of_nodup_map distinct present member
      ((congrArg Prod.fst (same k)).symm.trans tags)
    exact this ▸ kept distinct i member d decision

theorem QueueRuns.of_eq {s t : State} (queue : t.queue = s.queue) (inUse : ∀ n, (bankOf n t).inUse = (bankOf n s).inUse) :
    QueueRuns s t :=
  .of_map id (by simp [queue]) (by rw [queue]) inUse (fun _ => rfl) fun _ _ _ _ => id

theorem QueueRuns.trans {s t u : State} (h : QueueRuns s t) (g : QueueRuns t u) : QueueRuns s u where
  nextTag := g.nextTag.trans h.nextTag
  drops := by
    obtain ⟨k, hk⟩ := h.drops
    obtain ⟨m, gm⟩ := g.drops
    exact ⟨k + m, by rw [gm, hk, List.drop_drop]⟩
  inUse := g.inUse ∘ h.inUse
  decided distinct i member j found tags d decision := by
    obtain ⟨k, between, same⟩ := g.exists_before found
    have tag : k.tag = j.tag := congrArg Prod.fst same
    exact g.decided (h.tags_nodup distinct) k between j found tag.symm d
      (h.decided distinct i member k between (tag.trans tags) d decision)

theorem Retains.refl (r : FrameRecord) : Retains r r :=
  ⟨id, rfl, rfl, rfl, id, id⟩

theorem Retains.trans {a b c : FrameRecord} (h : Retains a b) (g : Retains b c) : Retains a c :=
  ⟨g.state ∘ h.state, g.tag.trans h.tag, g.bank.trans h.bank, g.station.trans h.station, g.k0 ∘ h.k0, g.k1 ∘ h.k1⟩

theorem Retains.isKept {a b : FrameRecord} (h : Retains a b) (kept : a.isKept) : b.isKept :=
  ⟨h.state kept.1, kept.2.imp h.k0 h.k1⟩

/-- An untouched Frame Store guards its frames. -/
theorem Guards.of_store_eq {s t : State} (frames : t.store.frames = s.store.frames)
    (reclaim : t.store.reclaim = s.store.reclaim) : Guards s t := by
  have same (id : FrameId) : frameOf id t = frameOf id s := congrArg (fun v => v[id]) frames
  exact fun sound => ⟨fun id member => same id ▸ sound id (reclaim ▸ member), fun id _ => same id ▸ .refl _⟩

theorem Guards.trans {s t u : State} (h : Guards s t) (g : Guards t u) : Guards s u := fun sound =>
  have ⟨between, first⟩ := h sound
  have ⟨after, second⟩ := g between
  ⟨after, fun id kept => (first id kept).trans (second id ((first id kept).isKept kept))⟩

theorem Ordinary.refl (s : State) : Ordinary s s :=
  ⟨rfl, rfl, rfl, rfl, rfl, rfl, rfl, rfl, .of_port_eq rfl rfl, .of_eq rfl fun _ => rfl, id, .of_store_eq rfl rfl⟩

theorem Ordinary.trans {s t u : State} (h : Ordinary s t) (g : Ordinary t u) : Ordinary s u where
  pos := g.pos.trans h.pos
  mem := g.mem.trans h.mem
  lamp := g.lamp.trans h.lamp
  linkState := g.linkState.trans h.linkState
  port := by rw [g.port, h.port]
  plans := by rw [g.plans, h.plans]
  freeCtr := g.freeCtr.trans h.freeCtr
  pending := g.pending.trans h.pending
  grows := h.grows.trans g.grows
  queue := h.queue.trans g.queue
  roomy := g.roomy ∘ h.roomy
  guards := h.guards.trans g.guards

theorem Ordinary.foldl {α : Type} {f : State → α → State} (each : ∀ t a, Ordinary t (f t a)) (l : List α) (s : State) :
    Ordinary s (l.foldl f s) := by
  induction l generalizing s with
  | nil => exact .refl s
  | cons a l ih => exact (each s a).trans (ih (f s a))

/-! ## What follows for the fields of port and plans -/

section

variable {s t : State} (h : Ordinary s t)
include h

theorem Ordinary.mode : t.port.mode = s.port.mode := by rw [h.port]
theorem Ordinary.settings : t.port.settings = s.port.settings := by rw [h.port]
theorem Ordinary.enables : t.port.enables = s.port.enables := by rw [h.port]
theorem Ordinary.buffer : t.port.buffer = s.port.buffer := by rw [h.port]
theorem Ordinary.refused : t.port.refused = s.port.refused := by rw [h.port]
theorem Ordinary.active : t.plans.active = s.plans.active := by rw [h.plans]
theorem Ordinary.pendingSwap : t.plans.pendingSwap = s.plans.pendingSwap := by rw [h.plans]

theorem Ordinary.bankOf_eq (n : BankName) : bankOf n t = { bankOf n s with inUse := (bankOf n t).inUse } := by
  cases n <;> (simp only [bankOf]; rw [h.plans])

theorem Ordinary.planOf_eq (n : BankName) : planOf n t = planOf n s := by
  rw [planOf, h.bankOf_eq n]; rfl

end

/-! ## Changes that leave what `Ordinary` speaks of alone -/

/-- A change that leaves alone what `Ordinary` speaks of, but for the records and the bounds. -/
theorem Ordinary.of_untouched {s t : State} (queue : QueueRuns s t) (roomy : Roomy s → Roomy t)
    (pos : t.pos = s.pos := by simp) (store : t.store = s.store := by simp)
    (lamp : t.gates.lamp = s.gates.lamp := by simp) (linkState : t.link.state = s.link.state := by simp)
    (port : t.port = s.port := by simp) (plans : t.plans = s.plans := by simp) (freeCtr : t.freeCtr = s.freeCtr := by simp)
    (pending : t.pending = s.pending := by simp) : Ordinary s t :=
  ⟨pos, by rw [store], lamp, linkState, by rw [port], by rw [plans], freeCtr, pending,
    .of_port_eq (by rw [port]) (by rw [port]), queue, roomy, .of_store_eq (by rw [store]) (by rw [store])⟩

/-- A change of the Frame Store, its memory apart, and of the background order, that guards the frames. -/
theorem Ordinary.setStore (s : State) (f : FrameStore) (order : List FrameId) (mem : f.mem = s.store.mem)
    (guards : Guards s { s with store := f, uplink.bgOrder := order }) :
    Ordinary s { s with store := f, uplink.bgOrder := order } :=
  ⟨rfl, mem, rfl, rfl, rfl, rfl, rfl, rfl, .of_port_eq rfl rfl, .of_eq rfl fun _ => rfl, fun h =>
    ⟨h.triggers, h.fifos, h.parsers, h.receiver, h.regions, h.reports, h.replies, h.goodRun⟩, guards⟩

/-- The bounds are kept by a change of nothing that they bound. -/
theorem Roomy.of_eq {s t : State} (h : Roomy s) (trig : t.trig = s.trig := by simp)
    (ports : t.ingest.ports = s.ingest.ports := by simp) (receiver : t.link.receiver = s.link.receiver := by simp)
    (goodRun : t.link.goodRun = s.link.goodRun := by simp) (regions : t.uplink.regions = s.uplink.regions := by simp)
    (reports : t.uplink.reports = s.uplink.reports := by simp) (replies : t.uplink.replies = s.uplink.replies := by simp) :
    Roomy t :=
  ⟨by rw [trig]; exact h.triggers, by rw [ports]; exact h.fifos, by rw [ports]; exact h.parsers,
    by rw [receiver]; exact h.receiver, by rw [regions]; exact h.regions, by rw [reports]; exact h.reports,
    by rw [replies]; exact h.replies, by rw [goodRun]; exact h.goodRun⟩

end Sys2Proof.Machine
end

section
/-! The shared operations are ordinary events: flags and counts, records and frames, retirement, triggers and gates. -/

namespace Sys2Proof.Machine

open Sys2Proof.Safety

variable (s : State)

/-! ## Flags and counts -/

theorem le_toNat_countUp (v : Word16) : v.toNat ≤ (countUp v).toNat := by
  rw [countUp_toNat]
  have := v.isLt
  omega

theorem Grows.raise (e : Event) : Grows s (raise e s) :=
  ⟨by simp [Machine.raise, ← BitVec.or_assoc], fun _ => le_rfl⟩

theorem Grows.bump (c : Count) : Grows s (bump c s) where
  flags := BitVec.or_self
  counts k := by
    by_cases same : c.place = k
    · subst same
      simpa [Machine.bump] using le_toNat_countUp _
    · have : c.place.val ≠ k.val := fun e => same (Fin.ext e)
      simp [Machine.bump, this]

theorem Ordinary.raise (e : Event) : Ordinary s (raise e s) :=
  ⟨rfl, rfl, rfl, rfl, rfl, rfl, rfl, rfl, .raise s e, .of_eq rfl fun _ => rfl, fun h => h.of_eq, .of_store_eq rfl rfl⟩

theorem Ordinary.bump (c : Count) : Ordinary s (bump c s) :=
  ⟨rfl, rfl, rfl, rfl, rfl, rfl, rfl, rfl, .bump s c, .of_eq rfl fun _ => rfl, fun h => h.of_eq, .of_store_eq rfl rfl⟩

theorem Ordinary.stationFault : Ordinary s (stationFault s) :=
  (Ordinary.raise s _).trans (.bump _ _)

/-! ## Item records -/

/-- A change of a record that keeps identity and decision is ordinary. -/
theorem Ordinary.updItem (tag : Tag) (f : Item → Item) (same : ∀ i, identity (f i) = identity i)
    (kept : ∀ i, (f i).decision = i.decision) : Ordinary s (updItem tag f s) := by
  refine .of_untouched (.of_map (fun i => if i.tag = tag then f i else i) rfl rfl (fun _ => rfl) ?_ ?_) fun h => h.of_eq
  · exact fun i => by split <;> simp [same]
  · exact fun _ i _ d decision => by split <;> simp [kept, decision]

/-- A station outcome that changes changes nothing else of the record but, it may be, its phase (R11). -/
theorem Item.withStation_eq (i : Item) (st : Station) (o : StationOutcome) :
    i.withStation st o = { i with stations := i.stations.set st.val o st.isLt, phase := (i.withStation st o).phase } := by
  simp only [Item.withStation]
  split <;> rfl

theorem Item.withStation_keeps (i : Item) (st : Station) (o : StationOutcome) :
    identity (i.withStation st o) = identity i ∧ (i.withStation st o).decision = i.decision := by
  rw [Item.withStation_eq]
  exact ⟨rfl, rfl⟩

theorem Ordinary.setStation (tag : Tag) (st : Station) (o : StationOutcome) : Ordinary s (setStation tag st o s) :=
  .updItem s tag _ (fun i => (i.withStation_keeps st o).1) fun i => (i.withStation_keeps st o).2

theorem Ordinary.setGateOutcome (tag : Tag) (p : Phase) (o : GateOutcome) : Ordinary s (setGateOutcome tag p o s) :=
  .updItem s tag _ (fun _ => rfl) fun _ => rfl

theorem Ordinary.passItem (tag : Tag) : Ordinary s (passItem tag s) :=
  .updItem s tag _ (fun _ => rfl) fun _ => rfl

/-! ## Frame records and blocks -/

/-- What of a record says whether it is held, by whom, and whose it is. -/
def FrameRecord.holding (r : FrameRecord) :
    FrameState × FrameClass × Tag × BankName × Station × Bool × Bool × Nat :=
  (r.state, r.cls, r.tag, r.bank, r.station, r.k0, r.k1, r.openTx)

theorem FrameRecord.evictable_of_holding {r q : FrameRecord} (same : r.holding = q.holding) : r.evictable = q.evictable := by
  simp only [FrameRecord.holding, Prod.mk.injEq] at same
  obtain ⟨state, cls, -, -, -, k0, k1, openTx⟩ := same
  simp only [FrameRecord.evictable, state, cls, k0, k1, openTx]

theorem Retains.of_holding {r q : FrameRecord} (same : r.holding = q.holding) : Retains q r := by
  simp only [FrameRecord.holding, Prod.mk.injEq] at same
  obtain ⟨state, -, tag, bank, station, k0, k1, -⟩ := same
  exact ⟨state ▸ id, tag, bank, station, k0 ▸ id, k1 ▸ id⟩

/-- A record written that is as evictable as the one before, and retains it where it is kept. -/
theorem Guards.setFrame {id : FrameId} {r : FrameRecord} (evictable : (frameOf id s).evictable = true → r.evictable = true)
    (retains : (frameOf id s).isKept → Retains (frameOf id s) r) : Guards s (setFrame id r s) := by
  refine fun sound => ⟨fun k member => ?_, fun k kept => ?_⟩
  · by_cases same : k = id
    · rw [same, frameOf_setFrame_same]
      exact evictable (same ▸ sound k member)
    · rw [frameOf_setFrame_other _ _ same]
      exact sound k member
  · by_cases same : k = id
    · subst same
      rw [frameOf_setFrame_same]
      exact retains kept
    · rw [frameOf_setFrame_other _ _ same]
      exact .refl _

theorem Ordinary.setFrame_of_guards {id : FrameId} {r : FrameRecord} (guards : Guards s (setFrame id r s)) :
    Ordinary s (setFrame id r s) :=
  .setStore s _ s.uplink.bgOrder rfl guards

/-- A record whose holding stays as it was. -/
theorem Ordinary.setFrame (id : FrameId) (r : FrameRecord) (same : r.holding = (frameOf id s).holding := by rfl) :
    Ordinary s (setFrame id r s) :=
  .setFrame_of_guards s (.setFrame s (fun listed => (FrameRecord.evictable_of_holding same).trans listed)
    fun _ => .of_holding same)

/-- A record that is neither kept nor evictable may become any other. -/
theorem Ordinary.setFrame_of_unkept (id : FrameId) (r : FrameRecord)
    (unkept : ReclaimSound s → ¬ (frameOf id s).isKept ∧ (frameOf id s).evictable = false) :
    Ordinary s (Machine.setFrame id r s) :=
  .setFrame_of_guards s fun sound => Guards.setFrame s
    (fun listed => absurd ((unkept sound).2.symm.trans listed) Bool.false_ne_true)
    (fun kept => absurd kept (unkept sound).1) sound

theorem FrameRecord.not_isKept_of_evictable {r : FrameRecord} (h : r.evictable = true) : ¬ r.isKept := by
  simp only [FrameRecord.evictable, Bool.and_eq_true, Bool.not_eq_true'] at h
  obtain ⟨⟨⟨_, k0⟩, k1⟩, _⟩ := h
  simp [FrameRecord.isKept, k0, k1]

theorem FrameRecord.not_isKept_of_freeable {r : FrameRecord} (h : r.freeable = true) : ¬ r.isKept := by
  simp only [FrameRecord.freeable, Bool.and_eq_true, Bool.not_eq_true'] at h
  obtain ⟨⟨⟨_, k0⟩, k1⟩, _⟩ := h
  simp [FrameRecord.isKept, k0, k1]

/-- A record that is not kept goes back to FREE. -/
theorem Ordinary.freeFrame (id : FrameId) (unkept : ReclaimSound s → ¬ (frameOf id s).isKept) : Ordinary s (freeFrame id s) := by
  refine .setStore s _ _ rfl fun sound => ⟨fun k member => ?_, fun k kept => ?_⟩
  · obtain ⟨listed, other⟩ := mem_without.mp member
    exact (frameOf_freeFrame_other s other).symm ▸ sound k listed
  · have other : k ≠ id := fun same => unkept sound (same ▸ kept)
    exact (frameOf_freeFrame_other s other).symm ▸ .refl _

/-- A record that changes and is settled: one that was kept is retained (R112, R116). -/
theorem Ordinary.updFrame (id : FrameId) (f : FrameRecord → FrameRecord) 
    (retains : ∀ r, Retains r (f r) := by exact fun _ => ⟨fun k => k, rfl, rfl, rfl, fun k => k, fun k => k⟩) :
    Ordinary s (updFrame id f s) := by
  rw [updFrame_eq]
  refine .setStore s _ _ rfl ?_
  change Guards s (withFrame id (f (frameOf id s)) s)
  rw [← updFrame_eq]
  refine fun sound => ⟨fun k member => ?_, fun k kept => ?_⟩
  · rw [Machine.updFrame, mem_reclaim_settleFrame, frameOf_setFrame_same] at member
    by_cases same : k = id
    · rw [if_pos same] at member
      rw [same, frameOf_updFrame_same]
      split
      · exact absurd ((FrameRecord.not_evictable_of_freeable ‹_›).symm.trans member) Bool.false_ne_true
      · exact member
    · rw [if_neg same] at member
      rw [frameOf_updFrame_other s _ same]
      exact sound k member
  · by_cases same : k = id
    · subst same
      rw [frameOf_updFrame_same]
      split
      · exact absurd ((retains _).isKept kept) (FrameRecord.not_isKept_of_freeable ‹_›)
      · exact retains _
    · rw [frameOf_updFrame_other s _ same]
      exact .refl _

theorem Ordinary.of_evictHead? {t : State} (h : evictHead? s = some t) : Ordinary s t := by
  rw [evictHead?_eq] at h
  obtain ⟨id, head, rfl⟩ := Option.map_eq_some_iff.mp h
  refine (Ordinary.freeFrame s id fun sound => ?_).trans (.bump _ _)
  exact FrameRecord.not_isKept_of_evictable (sound id (List.mem_of_mem_head? head))

theorem Ordinary.evictToWatermark (fuel : Nat) : Ordinary s (evictToWatermark fuel s) := by
  induction fuel generalizing s with
  | zero => exact .refl s
  | succ fuel ih =>
    unfold Machine.evictToWatermark
    split
    · exact .refl s
    · cases evict : evictHead? s with
      | none => exact .refl s
      | some t => exact (Ordinary.of_evictHead? s evict).trans (ih t)

theorem Ordinary.takeBlock (id : FrameId) (b : Block) (rest : List Block) : Ordinary s (takeBlock id b rest s) := by
  have shorter : Ordinary s { s with store.freeList := rest } :=
    .setStore s { s.store with freeList := rest } s.uplink.bgOrder rfl (.of_store_eq rfl rfl)
  exact (shorter.trans (.setFrame _ id _)).trans (.evictToWatermark _ _)

theorem Ordinary.allocBlock (id : FrameId) : Ordinary s (allocBlock id s).1 := by
  unfold Machine.allocBlock
  split
  · exact .takeBlock s _ _ _
  · split
    · exact .raise s _
    · rename_i t evict
      refine (Ordinary.of_evictHead? s evict).trans ?_
      split
      · exact .takeBlock t _ _ _
      · exact .raise t _

theorem Ordinary.of_takeRecord {id : FrameId} {t : State} (h : takeRecord s = some (id, t)) : Ordinary s t := by
  unfold Machine.takeRecord at h
  split at h
  · cases h
    exact .refl s
  · split at h
    · cases h
    · rename_i u evict
      obtain ⟨k, -, e⟩ := Option.map_eq_some_iff.mp h
      cases e
      exact .of_evictHead? s evict

theorem Ordinary.frameEnds (id : FrameId) : Ordinary s (frameEnds id s) :=
  .updFrame s id _ fun _ => ⟨fun _ => nofun, rfl, rfl, rfl, fun k => k, fun k => k⟩

/-! ## Reports and retirement -/

theorem Ordinary.offerReport (r : Report) : Ordinary s (offerReport r s) := by
  have queued {l : List Report} (room : s.uplink.reports.length ≤ 64 → l.length ≤ 64) :
      Ordinary s { s with uplink.reports := l } :=
    .of_untouched (.of_eq rfl fun _ => rfl) fun h =>
      ⟨h.triggers, h.fifos, h.parsers, h.receiver, h.regions, room h.reports, h.replies, h.goodRun⟩
  unfold Machine.offerReport Config.reportQueueCapacity
  split
  · refine ((queued ?_).trans (.raise _ _)).trans (.bump _ _)
    simp only [List.length_append, List.length_tail, List.length_singleton]
    omega
  · refine queued ?_
    simp only [List.length_append, List.length_singleton]
    omega

/-- A head that retires takes its place in the in-use count with it (R17, R42). -/
theorem Ordinary.retireHead {i : Item} {rest : List Item} (head : s.queue.items = i :: rest) :
    Ordinary s (retireHead i rest s) := by
  refine Ordinary.trans ?left (.offerReport _ _)
  have inUse (n : BankName) (counted : InUseCounted s) :
      (bankOf n (updBank i.bank (fun b => { b with inUse := b.inUse - 1 }) { s with queue.items := rest })).inUse
        = rest.countP fun i => i.bank == n := by
    have := counted n
    rw [head, List.countP_cons] at this
    by_cases bank : n = i.bank
    · subst bank
      rw [bankOf_updBank_same]
      simp only [beq_self_eq_true, if_true] at this
      exact Nat.sub_eq_of_eq_add this
    · have other : n = i.bank.other := by cases n <;> cases e : i.bank <;> simp_all [BankName.other]
      subst other
      rw [bankOf_updBank_other]
      have : (bankOf i.bank.other s).inUse = rest.countP fun k => k.bank == i.bank.other := by simpa [Ne.symm bank] using this
      cases e : i.bank <;> (rw [e] at this; exact this)
  refine ⟨by simp, by simp, by simp, by simp, by simp, ?plans, by simp, by simp, .of_port_eq (by simp) (by simp),
    ⟨by simp, ⟨1, by simp [head]⟩, fun counted n => ?count, ?decided⟩, fun h => h.of_eq,
    .of_store_eq (by simp) (by simp)⟩
  case plans => cases i.bank <;> rfl
  case count => rw [inUse n counted]; simp
  case decided =>
    intro distinct k member j found tags d decision
    have member' : j ∈ s.queue.items := by
      rw [head]
      exact List.mem_cons_of_mem _ (by simpa using found)
    exact List.inj_on_of_nodup_map distinct member' member tags ▸ decision

theorem Ordinary.examineHeads (fuel : Nat) : Ordinary s (examineHeads fuel s) := by
  induction fuel generalizing s with
  | zero => exact .refl s
  | succ fuel ih =>
    unfold Machine.examineHeads
    split
    · exact .refl s
    · rename_i head
      split
      · exact (Ordinary.retireHead s head).trans (ih _)
      · exact .refl s

theorem Ordinary.examineHead : Ordinary s (examineHead s) :=
  .examineHeads s _

/-! ## Triggers -/

/-- A change of one station of the Trigger Unit is ordinary where its queue stays within the bound. -/
theorem Ordinary.updTrig (st : Station) (f : StationTriggers → StationTriggers)
    (bound : s.trig[st].queue.length ≤ 4 → (f s.trig[st]).queue.length ≤ 4) : Ordinary s (updTrig st f s) := by
  refine .of_untouched (.of_eq rfl fun _ => rfl) fun h =>
    ⟨fun k => ?_, h.fifos, h.parsers, h.receiver, h.regions, h.reports, h.replies, h.goodRun⟩
  by_cases same : k = st
  · rw [same, trig_updTrig_same]
    exact bound (h.triggers st)
  · rw [trig_updTrig_other _ _ same]
    exact h.triggers k

theorem Ordinary.removeTriggers (tag : Tag) (bank : BankName) : Ordinary s (removeTriggers tag bank s) := by
  refine .of_untouched (.of_eq rfl fun _ => rfl) fun h =>
    ⟨fun k => ?_, h.fifos, h.parsers, h.receiver, h.regions, h.reports, h.replies, h.goodRun⟩
  have bound := h.triggers k
  simp only [Machine.removeTriggers, onEach_eq_map, Fin.getElem_fin, Vector.getElem_map, StationTriggers.dropItem] at bound ⊢
  exact (List.length_filter_le _ _).trans bound

/-! ## Gates -/

theorem Ordinary.updGate (g : Gate) (f : GateState → GateState) : Ordinary s (updGate g f s) :=
  .of_untouched (.of_eq (by simp) fun n => by cases g <;> cases n <;> rfl) fun h => h.of_eq

theorem Ordinary.missFire (g : Gate) (tag : Tag) : Ordinary s (missFire g tag s) :=
  (((Ordinary.updGate s g _).trans (.setGateOutcome _ _ _ _)).trans (.raise _ _)).trans (.bump _ _)

end Sys2Proof.Machine
end

section
/-! The units' events that are ordinary: the Trigger Unit's, the Gate Unit's and the Decision Unit's examinations. -/

namespace Sys2Proof.Machine

open Sys2Proof.Safety

variable (s : State)

/-! ## The Trigger Unit (chapter 5) -/

theorem Ordinary.handTrigger (i : Item) (st : Station) : Ordinary s (handTrigger i st s) := by
  unfold Machine.handTrigger
  split
  · exact .updTrig s st _ id
  · split
    · rename_i room
      refine .updTrig s st _ fun _ => ?_
      simp only [List.length_append, List.length_singleton]
      exact room
    · exact (Ordinary.setStation s _ _ _).trans (.stationFault _)

theorem Ordinary.examineStation (i : Item) (st : Station) : Ordinary s (examineStation i st s) := by
  unfold Machine.examineStation
  split
  · split
    · exact .handTrigger s i st
    · exact .setStation s _ _ _
    · exact .refl s
  · exact .refl s

theorem Ordinary.examineTriggers (tag : Tag) : Ordinary s (examineTriggers tag s) := by
  unfold Machine.examineTriggers
  split
  · exact .foldl (fun t st => .examineStation t _ st) _ s
  · exact .refl s

theorem Ordinary.examineAllTriggers : Ordinary s (examineAllTriggers s) :=
  .foldl (fun t tag => .examineTriggers t tag) _ s

theorem Ordinary.recordTrainEnd (st : Station) (tr : Train) : Ordinary s (recordTrainEnd st tr s) := by
  unfold Machine.recordTrainEnd
  split
  · split
    · exact (Ordinary.setStation s _ _ _).trans (.updTrig _ st _ id)
    · exact .refl s
  · exact .refl s

theorem Ordinary.nextTrain (st : Station) : Ordinary s (nextTrain st s) := by
  unfold Machine.nextTrain
  split
  · exact .updTrig s st _ id
  · rename_i e rest queue
    refine .updTrig s st _ fun bound => ?_
    rw [queue, List.length_cons] at bound
    exact Nat.le_of_succ_le bound

theorem Ordinary.expireTimeout (st : Station) (e : TimeoutEntry) : Ordinary s (expireTimeout st e s) := by
  have removed : Ordinary s (Machine.updTrig st (fun t => { t with timeouts := t.timeouts.tail }) s) := .updTrig s st _ id
  unfold Machine.expireTimeout
  split
  · split
    · exact (removed.trans (.setStation _ _ _ _)).trans (.stationFault _)
    · exact removed
  · exact removed

theorem Ordinary.skipQueued (st : Station) : Ordinary s (skipQueued st s) := by
  unfold Machine.skipQueued
  refine (Ordinary.updTrig s st (fun t => { t with queue := [] }) fun _ => Nat.zero_le 4).trans (.foldl (fun t e => ?_) _ _)
  split
  · exact .setStation t _ _ _
  · exact .refl t

theorem Ordinary.skipAllQueued : Ordinary s (skipAllQueued s) :=
  .foldl (fun t st => .skipQueued t st) _ s

/-! ## The Gate Unit (chapter 9) -/

theorem Ordinary.startFire (g : Gate) (tag : Tag) : Ordinary s (startFire g tag s) := by
  unfold Machine.startFire
  split
  · exact (Ordinary.updGate s g _).trans (.setGateOutcome _ _ _ _)
  · exact (Ordinary.updGate s g _).trans (.setGateOutcome _ _ _ _)
  · exact .updGate s g _

theorem Ordinary.startFires (g : Gate) : Ordinary s (startFires g s) :=
  .foldl (fun t tag => .startFire t g tag) _ s

theorem Ordinary.endFires (g : Gate) : Ordinary s (endFires g s) :=
  (Ordinary.updGate s g _).trans (.foldl (fun t (f : Fire) => .passItem t f.tag) _ _)

theorem Ordinary.examineGate (g : Gate) : Ordinary s (examineGate g s) :=
  (Ordinary.startFires s g).trans (.endFires _ g)

theorem Ordinary.examineGates : Ordinary s (examineGates s) :=
  ((Ordinary.examineGate s .reject).trans (.examineGate _ .rework)).trans (.examineHead _)

theorem Ordinary.examinePlaced (g : Gate) (f : Fire) : Ordinary s (examinePlaced g f s) := by
  unfold Machine.examinePlaced
  split
  · split
    · exact .missFire s g _
    · exact .startFire s g _
  · exact .refl s

theorem Ordinary.releaseHeld (g : Gate) (f : Fire) : Ordinary s (releaseHeld g f s) := by
  unfold Machine.releaseHeld
  split
  · exact .missFire s g _
  · exact (((Ordinary.updGate s g _).trans (.setGateOutcome _ _ _ _)).trans (.raise _ _)).trans (.bump _ _)

theorem Ordinary.leaveRecovery (g : Gate) : Ordinary s (leaveRecovery g s) :=
  (Ordinary.updGate s g _).trans (.foldl (fun t f => .releaseHeld t g f) _ _)

theorem Ordinary.cutItem (tag : Tag) : Ordinary s (cutItem tag s) :=
  ((Ordinary.setGateOutcome s _ _ _).trans (.raise _ _)).trans (.bump _ _)

theorem Ordinary.cutGate (g : Gate) : Ordinary s (cutGate g s) := by
  unfold Machine.cutGate
  split
  · exact (Ordinary.updGate s g _).trans (.foldl (fun t (f : Fire) => .cutItem t f.tag) _ _)
  · exact .refl s
  · exact .refl s

theorem Ordinary.gatesAtHalt : Ordinary s (gatesAtHalt s) := by
  unfold Machine.gatesAtHalt
  split
  · exact ((Ordinary.cutGate s .reject).trans (.cutGate _ .rework)).trans (.examineHead _)
  · exact .refl s

/-! ## The Decision Unit (chapter 4) -/

theorem Ordinary.missingAtDecision (i : Item) : Ordinary s (missingAtDecision i s) := by
  refine .foldl (fun t st => ?_) _ s
  split
  · exact .stationFault t
  · exact .refl t

theorem Ordinary.noteDefault (d : Decision) : Ordinary s (noteDefault d s) := by
  unfold Machine.noteDefault
  split
  · exact (Ordinary.raise s _).trans (.bump _ _)
  · exact .refl s

theorem Retains.atDecision (kept : Bool) (r : FrameRecord) : Retains r (r.atDecision kept) :=
  ⟨fun k => k, rfl, rfl, rfl, fun k0 => by simp [FrameRecord.atDecision, k0], fun k => k⟩

theorem Ordinary.framesAtDecision (i : Item) (kept : Bool) : Ordinary s (framesAtDecision i kept s) := by
  refine .foldl (fun t st => ?_) _ s
  split
  · exact .updFrame t _ _ (.atDecision kept)
  · exact .refl t

theorem Ordinary.carryOut (i : Item) (d : Decision) : Ordinary s (carryOut i d s) := by
  unfold Machine.carryOut
  split
  · exact .updGate s _ _
  · exact .examineHead s

/-- A decision of an undecided record is ordinary: where tags are distinct no other record carries its tag. -/
theorem Ordinary.decidedBy {i : Item} (d : Decision) (live : i ∈ s.queue.items) (undecided : i.decision = none) :
    Ordinary s (Machine.updItem i.tag (Item.decidedBy d) s) := by
  refine .of_untouched (.of_map (fun k => if k.tag = i.tag then k.decidedBy d else k) rfl rfl (fun _ => rfl) ?_ ?_)
    fun h => h.of_eq
  · exact fun k => by split <;> rfl
  · intro distinct k member e decision
    split
    · rename_i tag
      rw [List.inj_on_of_nodup_map distinct member live tag, undecided] at decision
      cases decision
    · exact decision

theorem Ordinary.decide_ {i : Item} (live : i ∈ s.queue.items) (undecided : i.decision = none) : Ordinary s (decide_ i s) := by
  have noted : Ordinary s (Machine.removeTriggers i.tag i.bank (Machine.missingAtDecision i s)) :=
    (Ordinary.missingAtDecision s i).trans (.removeTriggers _ _ _)
  have items : (Machine.removeTriggers i.tag i.bank (Machine.missingAtDecision i s)).queue.items = s.queue.items := by
    refine List.foldlRecOn (motive := fun t : State => t.queue.items = s.queue.items) allStations _ rfl fun t same st _ => ?_
    split
    · exact same
    · exact same
  have marked := noted.trans (.decidedBy _ (judge i s) (items ▸ live) undecided)
  exact (((marked.trans (.noteDefault _ _)).trans (.framesAtDecision _ _ _)).trans (.offerReport _ _)).trans (.carryOut _ _ _)

theorem mem_of_itemOf? {tag : Tag} {s : State} {i : Item} (h : itemOf? tag s = some i) : i ∈ s.queue.items ∧ i.tag = tag :=
  ⟨List.mem_of_find?_eq_some h, by simpa using List.find?_some h⟩

theorem decisionDue_iff {i : Item} {s : State} : decisionDue i s = true ↔ dueForDecision i s := by
  simp [decisionDue, dueForDecision, positionReached, atOrBeyond, signedDiff, pointAt, reached, and_assoc]

theorem Ordinary.examineDecision (tag : Tag) : Ordinary s (examineDecision tag s) := by
  unfold Machine.examineDecision
  split
  · rename_i i found
    split
    · rename_i due
      exact .decide_ s (mem_of_itemOf? found).1 (decisionDue_iff.mp due).1
    · exact .refl s
  · exact .refl s

theorem Ordinary.examineAllDecisions : Ordinary s (examineAllDecisions s) :=
  .foldl (fun t tag => .examineDecision t tag) _ s

theorem Ordinary.watch (w : Watcher) : Ordinary s (watch w s) :=
  match w with
  | .triggerUnit => .examineAllTriggers s
  | .decisionUnit => .examineAllDecisions s
  | .gateUnit => .examineGates s
  | .itemQueue => .examineHead s

/-! ## Voids (1.9) -/

theorem Ordinary.markAbort (id : FrameId) : Ordinary s (markAbort id s) :=
  .of_untouched (.of_eq rfl fun _ => rfl) (fun h => h.of_eq rfl rfl rfl rfl rfl rfl rfl) rfl rfl rfl rfl rfl rfl rfl rfl

theorem Ordinary.framesAtVoid (i : Item) : Ordinary s (framesAtVoid i s) := by
  refine .foldl (fun t st => ?_) _ s
  split
  · exact (Ordinary.markAbort t _).trans (.updFrame _ _ _)
  · exact .refl t

theorem Ordinary.removeFire (i : Item) : Ordinary s (removeFire i s) := by
  unfold Machine.removeFire
  split
  · split
    · exact .updGate s _ _
    · exact .refl s
  · exact .refl s

theorem Ordinary.voidRecord (i : Item) : Ordinary s (voidRecord i s) :=
  ((((Ordinary.updItem s i.tag Item.voided (fun _ => rfl) fun _ => rfl).trans (.removeTriggers _ _ _)).trans
    (.framesAtVoid _ _)).trans (.removeFire _ _)).trans (.examineHead _)

end Sys2Proof.Machine
end

section
/-! The units' events that are ordinary, continued: the Ingest Unit's, the Uplink Scheduler's, and what the owners of requests
answer. -/

namespace Sys2Proof.Machine

open Sys2Proof.Safety

variable (s : State)

/-! ## The Ingest Unit (chapter 6) -/

/-- A change of one port is ordinary where its FIFO and its parser stay within their bounds. -/
theorem Ordinary.updPort (p : Station) (f : Port → Port)
    (fifo : (s.ingest.ports[p].fifo.flatMap FifoFrame.bytes).length ≤ 262144 →
      ((f s.ingest.ports[p]).fifo.flatMap FifoFrame.bytes).length ≤ 262144)
    (parser : parserBound s.ingest.ports[p].parser = true → parserBound (f s.ingest.ports[p]).parser = true) :
    Ordinary s (updPort p f s) := by
  refine .of_untouched (.of_eq rfl fun _ => rfl) fun h =>
    ⟨h.triggers, fun k => ?_, fun k => ?_, h.receiver, h.regions, h.reports, h.replies, h.goodRun⟩
  · by_cases same : k = p
    · rw [same, ports_updPort_same]
      exact fifo (h.fifos p)
    · rw [ports_updPort_other _ _ same]
      exact h.fifos k
  · by_cases same : k = p
    · rw [same, ports_updPort_same]
      exact parser (h.parsers p)
    · rw [ports_updPort_other _ _ same]
      exact h.parsers k

theorem Ordinary.setParser (p : Station) (q : Parser) (bound : parserBound q = true) : Ordinary s (setParser p q s) :=
  .updPort s p _ id fun _ => bound

/-- A change of the youngest frame that adds no bytes leaves no more bytes in the FIFO. -/
theorem length_onYoungest_le (f : FifoFrame → FifoFrame) (n : Nat) (adds : ∀ x, (f x).bytes.length ≤ x.bytes.length + n)
    (l : List FifoFrame) : ((onYoungest f l).flatMap FifoFrame.bytes).length ≤ (l.flatMap FifoFrame.bytes).length + n := by
  fun_induction onYoungest f l with
  | case1 => simp
  | case2 x => simpa using adds x
  | case3 x y rest ih =>
    simp only [List.flatMap_cons, List.length_append] at ih ⊢
    omega

theorem Ordinary.settleFifo (p : Station) : Ordinary s (settleFifo p s) := by
  unfold Machine.settleFifo
  split
  · rename_i f rest fifo
    split
    · refine (Ordinary.updPort s p _ (fun bound => ?_) id).trans (.frameEnds _ _)
      rw [fifo, List.flatMap_cons, List.length_append] at bound
      exact (Nat.le_add_left _ _).trans bound
    · exact .refl s
  · exact .refl s

theorem Ordinary.placeMark (p : Station) : Ordinary s (placeMark p s) := by
  refine (Ordinary.updPort s p _ (fun bound => ?_) id).trans (.settleFifo _ p)
  exact (length_onYoungest_le (fun f => { f with marked := true }) 0 (fun _ => le_rfl) _).trans bound

theorem Ordinary.headerFault : Ordinary s (headerFault s) :=
  (Ordinary.raise s _).trans (.bump _ _)

theorem Ordinary.stationAtHeader (i : Item) (p : Station) (o : StationOutcome) : Ordinary s (stationAtHeader i p o s) := by
  unfold Machine.stationAtHeader
  split
  · exact (Ordinary.setStation s _ _ _).trans (.updTrig _ p _ id)
  · exact .setStation s _ _ _

theorem Ordinary.dropFrame (i : Item) (p : Station) : Ordinary s (dropFrame i p s) :=
  ((Ordinary.raise s _).trans (.stationAtHeader _ _ _ _)).trans (.setParser _ _ _ rfl)

theorem Ordinary.openFrameOn (i : Item) (p : Station) (id : FrameId) (width height depth : Nat) :
    Ordinary s (openFrameOn i p id width height depth s) := by
  refine (Ordinary.stationAtHeader s i p _).trans (.updPort _ p _ (fun bound => ?_) fun _ => rfl)
  simpa using bound

theorem state_of_takeRecord {s t : State} {id : FrameId} (h : takeRecord s = some (id, t)) : (frameOf id t).state = .free := by
  have free {u : State} (lowest : lowestFree u = some id) : (frameOf id u).state = .free := by
    simpa using List.find?_some lowest
  unfold takeRecord at h
  split at h
  · cases h
    exact free ‹_›
  · split at h
    · cases h
    · obtain ⟨k, lowest, e⟩ := Option.map_eq_some_iff.mp h
      cases e
      exact free lowest

/-- An allocation that fails leaves the record it was for as it was, or has evicted that record too. -/
theorem frameOf_of_allocBlock_failed {s u : State} {id : FrameId} (h : allocBlock id s = (u, false)) :
    frameOf id u = frameOf id s ∨ frameOf id u = FrameRecord.freed := by
  unfold allocBlock at h
  split at h
  · cases h
  · split at h
    · cases h
      exact .inl rfl
    · rename_i t evict
      split at h
      · cases h
      · cases h
        rw [evictHead?_eq] at evict
        obtain ⟨k, -, rfl⟩ := Option.map_eq_some_iff.mp evict
        by_cases same : id = k
        · exact .inr (same ▸ frameOf_freeFrame_same s id)
        · exact .inl (frameOf_freeFrame_other s same)

theorem Ordinary.storeMatched (i : Item) (p : Station) (word : Word24) (width height depth : Nat) :
    Ordinary s (storeMatched i p word width height depth s) := by
  unfold Machine.storeMatched
  split
  · exact .dropFrame s i p
  · rename_i id t record
    have free := state_of_takeRecord record
    have filled := (Ordinary.of_takeRecord s record).trans
      (.setFrame_of_unkept t id (fillingRecord word p width height depth (i.phase == .void))
        fun _ => ⟨fun kept => kept.1 free, by simp [FrameRecord.evictable, free]⟩)
    have tried := filled.trans (.allocBlock _ id)
    split
    · rename_i u alloc
      rw [alloc] at tried
      exact tried.trans (.openFrameOn u i p id width height depth)
    · rename_i u alloc
      rw [alloc] at tried
      refine (tried.trans (.setFrame_of_unkept u id _ fun _ => ?_)).trans (.dropFrame _ i p)
      rcases frameOf_of_allocBlock_failed alloc with same | same
      · rw [same, frameOf_setFrame_same]
        simp [FrameRecord.isKept, FrameRecord.evictable, fillingRecord, FrameRecord.freed]
      · rw [same]
        simp [FrameRecord.isKept, FrameRecord.evictable, FrameRecord.freed]

theorem Ordinary.discardFrame (p : Station) (e : Event) (c : Count) : Ordinary s (discardFrame p e c s) :=
  ((Ordinary.raise s _).trans (.bump _ _)).trans (.setParser _ _ _ rfl)

theorem Ordinary.headerArrived (p : Station) (word : Word24) (width height depth : Nat) :
    Ordinary s (headerArrived p word width height depth s) := by
  unfold Machine.headerArrived
  split
  · exact (Ordinary.headerFault s).trans (.setParser _ _ _ rfl)
  · split
    · exact .discardFrame s p _ _
    · split
      · exact .discardFrame s p _ _
      · exact .storeMatched s _ p word width height depth

theorem Ordinary.damageStation (f : OpenFrame) (p : Station) : Ordinary s (damageStation f p s) := by
  unfold Machine.damageStation
  split
  · rename_i i _
    have raised := (Ordinary.setStation s i.tag p (.damaged f.frame)).trans (.raise _ .stationFault)
    split
    · simp only
      split
      · exact raised.trans (.bump _ _)
      · exact raised
    · exact .refl s
  · exact .refl s

theorem Ordinary.failFrame (f : OpenFrame) (p : Station) : Ordinary s (failFrame f p s) :=
  (Ordinary.setFrame s _ _).trans (.damageStation _ f p)

theorem Ordinary.endWithoutTrailer (f : OpenFrame) (p : Station) : Ordinary s (endWithoutTrailer f p s) :=
  (Ordinary.failFrame s f p).trans (.placeMark _ p)

theorem Ordinary.trailerArrived (f : OpenFrame) (p : Station) (rows : Word16) (crc : Word32) :
    Ordinary s (trailerArrived f p rows crc s) := by
  refine Ordinary.trans ?_ ((Ordinary.placeMark _ p).trans (.setParser _ p _ rfl))
  split
  · exact .failFrame s f p
  · exact .refl s

theorem Ordinary.syncPattern (p : Station) : Ordinary s (syncPattern p s) := by
  unfold Machine.syncPattern
  split
  · exact .setParser s p _ rfl
  · exact (Ordinary.headerFault s).trans (.setParser _ p _ rfl)
  · exact (Ordinary.endWithoutTrailer s _ p).trans (.setParser _ p _ rfl)
  · exact (Ordinary.endWithoutTrailer s _ p).trans (.setParser _ p _ rfl)
  · exact .setParser s p _ rfl

theorem Ordinary.endPattern (p : Station) : Ordinary s (endPattern p s) := by
  unfold Machine.endPattern
  split
  · exact .refl s
  · exact (Ordinary.headerFault s).trans (.setParser _ p _ rfl)
  · exact .setParser s p _ rfl
  · exact (Ordinary.endWithoutTrailer s _ p).trans (.setParser _ p _ rfl)
  · exact .refl s

theorem Ordinary.headerByte (p : Station) (l : List Byte) : Ordinary s (headerByte p l s) := by
  unfold Machine.headerByte
  split
  · rename_i short
    exact .setParser s p _ (decide_eq_true short)
  · exact .headerArrived s p _ _ _ _

theorem Ordinary.trailerByte (f : OpenFrame) (p : Station) (l : List Byte) : Ordinary s (trailerByte f p l s) := by
  unfold Machine.trailerByte
  split
  · rename_i short
    exact .setParser s p _ (decide_eq_true short)
  · exact .trailerArrived s f p _ _

theorem Ordinary.overflow (f : OpenFrame) (p : Station) : Ordinary s (overflow f p s) :=
  (((Ordinary.setFrame s _ _).trans (.failFrame _ f p)).trans (.placeMark _ p)).trans (.setParser _ p _ rfl)

theorem fifoBytes_eq (l : List FifoFrame) : fifoBytes l = (l.flatMap FifoFrame.bytes).length := by
  simp [fifoBytes, List.length_flatMap]

theorem Ordinary.pixelReceived (f : OpenFrame) (p : Station) (b : Byte) : Ordinary s (pixelReceived f p b s) := by
  unfold Machine.pixelReceived
  split
  · exact .setParser s p _ rfl
  · split
    · exact .overflow s f p
    · rename_i room
      refine .updPort s p _ (fun _ => ?_) fun _ => rfl
      rw [fifoBytes_eq, Config.fifoCapacity] at room
      have := length_onYoungest_le (fun g => { g with bytes := g.bytes ++ [b] }) 1 (fun x => by simp) s.ingest.ports[p].fifo
      exact this.trans (by omega)

theorem Ordinary.beginHeader (p : Station) : Ordinary s (beginHeader p s) := by
  unfold Machine.beginHeader
  split
  · exact .refl s
  all_goals exact .syncPattern s p

theorem Ordinary.beginTrailer (p : Station) : Ordinary s (beginTrailer p s) := by
  unfold Machine.beginTrailer
  split
  · exact .refl s
  all_goals exact .endPattern s p

theorem Ordinary.reachTrailer (p : Station) : Ordinary s (reachTrailer p s) := by
  unfold Machine.reachTrailer
  split
  · exact .refl s
  all_goals exact .endPattern s p

theorem Ordinary.takeTrailer (p : Station) (rows : Word16) (crc : Word32) : Ordinary s (takeTrailer p rows crc s) := by
  unfold Machine.takeTrailer
  split
  · exact .trailerArrived s _ p rows crc
  all_goals exact .refl s

/-! ## The write path (6.5) -/

theorem Ordinary.setGrant (g : Option Station) : Ordinary s { s with ingest.grant := g } :=
  .of_untouched (.of_eq rfl fun _ => rfl) fun h => h.of_eq

theorem Ordinary.setPointer (p : Station) : Ordinary s { s with ingest.pointer := p } :=
  .of_untouched (.of_eq rfl fun _ => rfl) fun h => h.of_eq

theorem Ordinary.truncateFrame {p : Station} {f : FifoFrame} {rest : List FifoFrame}
    (fifo : s.ingest.ports[p].fifo = f :: rest) : Ordinary s (truncateFrame p f rest s) := by
  refine (((Ordinary.setGrant s none).trans (.setFrame _ f.frame _)).trans (.updPort _ p _ (fun bound => ?_) id)).trans
    (.settleFifo _ p)
  simp only [setFrame_ingest, fifo, List.flatMap_cons, List.length_append, List.nil_append] at bound ⊢
  omega

/-- A block allocation changes no port. -/
theorem evictToWatermark_ingest (fuel : Nat) : (evictToWatermark fuel s).ingest = s.ingest := by
  induction fuel generalizing s with
  | zero => rfl
  | succ fuel ih =>
    unfold Machine.evictToWatermark
    split
    · rfl
    · rw [evictHead?_eq]
      cases s.store.reclaim.head? with
      | none => rfl
      | some id => exact ih _

theorem takeBlock_ingest (id : FrameId) (b : Block) (rest : List Block) : (takeBlock id b rest s).ingest = s.ingest :=
  evictToWatermark_ingest _ _

theorem allocBlock_ingest (id : FrameId) : (allocBlock id s).1.ingest = s.ingest := by
  unfold Machine.allocBlock
  rw [evictHead?_eq]
  split
  · exact takeBlock_ingest s _ _ _
  · cases s.store.reclaim.head? with
    | none => rfl
    | some k =>
      simp only [Option.map_some]
      split
      · exact takeBlock_ingest _ _ _ _
      · rfl

theorem Ordinary.startGrant {p : Station} {f : FifoFrame} {rest : List FifoFrame}
    (fifo : s.ingest.ports[p].fifo = f :: rest) : Ordinary s (startGrant p f rest s) := by
  unfold Machine.startGrant
  split
  · split
    · exact .truncateFrame s fifo
    · have tried := Ordinary.allocBlock s f.frame
      have ports := allocBlock_ingest s f.frame
      split
      · rename_i t alloc
        rw [alloc] at tried
        exact tried.trans (.setGrant t _)
      · rename_i t alloc
        rw [alloc] at tried ports
        exact tried.trans (.truncateFrame t (by rw [ports, fifo]))
  · exact .setGrant s _

theorem Ordinary.grantPort (p : Station) : Ordinary s (grantPort p s) := by
  unfold Machine.grantPort
  split
  · rename_i f rest fifo
    exact (Ordinary.setPointer s _).trans (.startGrant _ fifo)
  · exact .refl s

/-- A grant's end is a write into the memory, and is otherwise ordinary (R97). -/
theorem finishGrant_ordinary (p : Station) :
    ∃ m, (finishGrant p s).store.mem = m ∧ (MemoryCanonical s → Memory.wf m = true)
      ∧ Ordinary { s with store.mem := m } (finishGrant p s) := by
  unfold Machine.finishGrant
  split
  · exact ⟨_, rfl, id, .refl s⟩
  rename_i f rest fifo
  have written : ∃ m, (MemoryCanonical s → Memory.wf m = true) ∧
      Ordinary { s with store.mem := m } (writeGranted f.frame (grantBytes f s) s)
      ∧ (writeGranted f.frame (grantBytes f s) s).ingest = s.ingest := by
    unfold Machine.writeGranted
    split
    · exact ⟨_, Memory.wf_writeBytes _ _, .setFrame _ _ _, rfl⟩
    · exact ⟨_, id, .refl s, rfl⟩
  obtain ⟨m, canonical, ordinary, ports⟩ := written
  suffices h : Ordinary (writeGranted f.frame (grantBytes f s) s) _ from
    ⟨m, (ordinary.trans h).mem, canonical, ordinary.trans h⟩
  simp only
  split
  · refine (Ordinary.updPort _ p _ (fun bound => ?_) id).trans (.frameEnds _ _)
    rw [ports, fifo, List.flatMap_cons, List.length_append] at bound
    exact (Nat.le_add_left _ _).trans bound
  · refine .updPort _ p _ (fun bound => ?_) id
    rw [ports, fifo] at bound
    simp only [List.flatMap_cons, List.length_append, List.length_drop] at bound ⊢
    omega

/-! ## The Uplink Scheduler (chapter 8) -/

/-- A change of transmissions, the lane and the ABORTs owed, and of queues that do not grow, is ordinary. -/
theorem Ordinary.setUplink (u : Uplink) (regions : u.regions.length ≤ s.uplink.regions.length)
    (reports : u.reports.length ≤ s.uplink.reports.length) (replies : u.replies.length ≤ s.uplink.replies.length) :
    Ordinary s { s with uplink := u } :=
  .of_untouched (.of_eq rfl fun _ => rfl) fun h =>
    ⟨h.triggers, h.fifos, h.parsers, h.receiver, regions.trans h.regions, reports.trans h.reports, replies.trans h.replies,
      h.goodRun⟩

theorem Ordinary.clearDeadline : Ordinary s { s with uplink.deadline := none } :=
  .setUplink s { s.uplink with deadline := none } le_rfl le_rfl le_rfl

theorem Ordinary.clearRegion : Ordinary s { s with uplink.region := none } :=
  .setUplink s { s.uplink with region := none } le_rfl le_rfl le_rfl

theorem Ordinary.clearBackground : Ordinary s { s with uplink.background := none } :=
  .setUplink s { s.uplink with background := none } le_rfl le_rfl le_rfl

theorem Ordinary.sendSegment (g : Segment) : Ordinary s (sendSegment g s) :=
  .setUplink s _ le_rfl le_rfl le_rfl

theorem Ordinary.shedFrame (id : FrameId) : Ordinary s (shedFrame id s) := by
  unfold Machine.shedFrame
  split
  · exact .setFrame s _ _
  · exact (Ordinary.setFrame s _ _).trans (.bump _ _)

theorem Ordinary.walk (l : List Candidate) : Ordinary s (walk l s).1 := by
  induction l generalizing s with
  | nil => exact .refl s
  | cons c rest ih =>
    unfold Machine.walk
    split
    · exact .refl s
    · exact (Ordinary.shedFrame s _).trans (ih _)

theorem Ordinary.reportOpening (id : FrameId) : Ordinary s (reportOpening id s) :=
  .updFrame s id _

theorem Ordinary.reportClosing (id : FrameId) : Ordinary s (reportClosing id s) :=
  .updFrame s id _

theorem Ordinary.reportCompletion (id : FrameId) (f : Nat) : Ordinary s (reportCompletion id f s) :=
  .updFrame s id _

theorem Ordinary.sendAbort (a : Abort) : Ordinary s (sendAbort a s) := by
  unfold Machine.sendAbort
  have sent := Ordinary.sendSegment s (plainSegment .abort a.bytes)
  refine sent.trans ?_
  simp only
  split
  · exact (Ordinary.clearDeadline _).trans (.reportClosing _ _)
  · exact (Ordinary.clearBackground _).trans (.reportClosing _ _)
  · exact .refl _
  · exact .setUplink _ _ le_rfl le_rfl le_rfl
  · exact .refl _

/-- A change of the link that leaves its state, and keeps receiver and run within their bounds, is ordinary. -/
theorem Ordinary.setLink (l : FibreLink) (state : l.state = s.link.state)
    (receiver : receiverBound s.link.receiver = true → receiverBound l.receiver = true)
    (goodRun : s.link.goodRun ≤ 4 → l.goodRun ≤ 4) : Ordinary s { s with link := l } :=
  .of_untouched (.of_eq rfl fun _ => rfl) (fun h =>
    ⟨h.triggers, h.fifos, h.parsers, receiver h.receiver, h.regions, h.reports, h.replies, goodRun h.goodRun⟩)
    (linkState := state)

theorem Ordinary.sendReply {r : Reply} {rest : List Reply} (replies : s.uplink.replies = r :: rest) :
    Ordinary s (sendReply r rest s) := by
  refine ((Ordinary.setUplink s { s.uplink with replies := rest } le_rfl le_rfl ?_).trans
    (.setLink _ { s.link with pendingFault := false } rfl id id)).trans (.sendSegment _ _)
  rw [replies]
  exact Nat.le_succ _

theorem Ordinary.sendReport {r : Report} {rest : List Report} (reports : s.uplink.reports = r :: rest) :
    Ordinary s (sendReport r rest s) := by
  refine (Ordinary.setUplink s { s.uplink with reports := rest } le_rfl ?_ le_rfl).trans (.sendSegment _ _)
  rw [reports]
  exact Nat.le_succ _

theorem Ordinary.sendDeadline (t : DeadlineTx) : Ordinary s (sendDeadline t s) :=
  .setUplink s _ le_rfl le_rfl le_rfl

theorem Ordinary.sendRegion (t : RegionTx) : Ordinary s (sendRegion t s) :=
  .setUplink s _ le_rfl le_rfl le_rfl

theorem Ordinary.sendBackground (t : BackgroundTx) : Ordinary s (sendBackground t s) :=
  .setUplink s _ le_rfl le_rfl le_rfl

theorem Ordinary.openDeadline (c : Candidate) (f : Nat) : Ordinary s (openDeadline c f s) :=
  ((Ordinary.setFrame s _ _).trans (.reportOpening _ _)).trans (.setUplink _ _ le_rfl le_rfl le_rfl)

theorem Ordinary.openRegion {e : RegionEntry} {rest : List RegionEntry} (regions : s.uplink.regions = e :: rest) :
    Ordinary s (openRegion e rest s) := by
  have taken : Ordinary s { s with uplink.regions := rest } :=
    .setUplink s { s.uplink with regions := rest } (by rw [regions]; exact Nat.le_succ _) le_rfl le_rfl
  unfold Machine.openRegion
  refine taken.trans ?_
  split
  · exact (Ordinary.reportOpening _ _).trans (.setUplink _ _ le_rfl le_rfl le_rfl)
  · exact .sendSegment _ _

theorem Ordinary.openBackground (id : FrameId) : Ordinary s (openBackground id s) :=
  (Ordinary.reportOpening s id).trans (.setUplink _ _ le_rfl le_rfl le_rfl)

theorem Ordinary.endDeadline : Ordinary s (endDeadline s) := by
  unfold Machine.endDeadline
  split
  · split
    · exact (Ordinary.clearDeadline s).trans (.reportCompletion _ _ _)
    · exact .refl s
  · exact .refl s

theorem Ordinary.endRegion : Ordinary s (endRegion s) := by
  unfold Machine.endRegion
  split
  · split
    · exact (Ordinary.clearRegion s).trans (.reportClosing _ _)
    · exact .refl s
  · exact .refl s

theorem Ordinary.endBackground : Ordinary s (endBackground s) := by
  unfold Machine.endBackground
  split
  · split
    · exact (Ordinary.clearBackground s).trans (.reportCompletion _ _ _)
    · exact .refl s
  · exact .refl s

theorem Ordinary.endSegment : Ordinary s (endSegment s) :=
  ((Ordinary.endDeadline s).trans (.endRegion _)).trans (.endBackground _)

theorem Ordinary.chooseBackground : Ordinary s (chooseBackground s) := by
  unfold Machine.chooseBackground
  split
  · exact .sendBackground s _
  · split
    · exact .openBackground s _
    · exact .sendSegment s _

theorem Ordinary.chooseRegion : Ordinary s (chooseRegion s) := by
  unfold Machine.chooseRegion
  split
  · exact .sendRegion s _
  · split
    · rename_i regions
      exact .openRegion s regions
    · exact .chooseBackground s

theorem Ordinary.chooseDeadline : Ordinary s (chooseDeadline s) := by
  unfold Machine.chooseDeadline
  split
  · exact .sendDeadline s _
  · have walked := Ordinary.walk s (walkOrder s)
    split
    · rename_i t c f found
      rw [found] at walked
      exact walked.trans (.openDeadline t c f)
    · rename_i t found
      rw [found] at walked
      exact walked.trans (.chooseRegion t)

theorem Ordinary.chooseQueued : Ordinary s (chooseQueued s) := by
  unfold Machine.chooseQueued
  split
  · rename_i replies
    exact .sendReply s replies
  · split
    · rename_i reports
      exact .sendReport s reports
    · exact .chooseDeadline s

theorem Ordinary.chooseSegment : Ordinary s (chooseSegment s) := by
  unfold Machine.chooseSegment
  split
  · exact .sendSegment s _
  · split
    · exact .sendAbort s _
    · exact .chooseQueued s

/-! ## The Fibre Link (chapter 10) -/

theorem Ordinary.offerReply (r : Reply) : Ordinary s (offerReply r s) := by
  refine .of_untouched (.of_eq (by simp) fun n => by cases n <;> simp [bankOf]) fun h =>
    ⟨by simpa using h.triggers, by simpa using h.fifos, by simpa using h.parsers, by simpa using h.receiver, ?_, ?_, ?_,
      by simpa using h.goodRun⟩
  · simpa [offerReply_eq] using h.regions
  · simpa [offerReply_eq] using h.reports
  · have := h.replies
    rw [offerReply_eq]
    simp only [joinReplies, List.length_append, List.length_singleton]
    split
    · omega
    · rw [List.length_tail]
      omega

theorem Ordinary.badBlock (r : Receiver) (bound : receiverBound r = true) : Ordinary s (badBlock r s) := by
  have judged := Ordinary.setLink s { s.link with
    receiver := r
    pendingFault := true
    goodRun := match s.link.state with | .aligning => 0 | .up => s.link.goodRun } rfl (fun _ => bound)
  refine (judged fun goodRun => ?_).trans (.bump _ _)
  simp only
  split
  · exact Nat.zero_le 4
  · exact goodRun

theorem Ordinary.blockStart : Ordinary s (blockStart s) := by
  unfold Machine.blockStart
  split
  · exact .setLink s _ rfl (fun _ => rfl) id
  · exact .badBlock s _ rfl

theorem Ordinary.beginBlock : Ordinary s (beginBlock s) := by
  unfold Machine.beginBlock
  split
  · exact .refl s
  all_goals exact .blockStart s

theorem Ordinary.heard : Ordinary s (heard s) :=
  .setLink s _ rfl (fun _ => rfl) id

/-- The frames of the open transmissions, in the order in which the link closes them (R134). -/
def openFrames (u : Uplink) : List FrameId :=
  (u.deadline.map DeadlineTx.frame).toList ++ (u.region.map RegionTx.frame).toList ++
    (u.background.map BackgroundTx.frame).toList

/-- A link that is lost reports the closing of each open transmission in turn. -/
theorem closeAllReported_eq : closeAllReported s = (openFrames s.uplink).foldl (fun t id => reportClosing id t) s := by
  unfold closeAllReported openFrames
  cases s.uplink.deadline <;> cases s.uplink.region <;> cases s.uplink.background <;> simp

theorem Ordinary.closeAllReported : Ordinary s (closeAllReported s) := by
  rw [closeAllReported_eq]
  exact .foldl (fun t id => .reportClosing t id) _ s

/-! ## What owners answer -/

/-- An owner whose answer is an ordinary event, whatever the state. -/
def OrdinaryAnswer (owner : State → State × Result × List Byte) : Prop :=
  ∀ s, Ordinary s (owner s).1

theorem OrdinaryAnswer.dispatch {owner : State → State × Result × List Byte} (h : OrdinaryAnswer owner) (kind number : Byte)
    (s : State) : Ordinary s (dispatch kind number owner s) := by
  rw [dispatch_eq]
  exact (h s).trans (.offerReply _ _)

theorem Retains.withMark (m : KeepMark) (r : FrameRecord) : Retains r (r.withMark m true) := by
  cases m
  · exact ⟨fun k => k, rfl, rfl, rfl, fun _ => rfl, fun k => k⟩
  · exact ⟨fun k => k, rfl, rfl, rfl, fun k => k, fun _ => rfl⟩

/-- KEEP (R113). -/
theorem Ordinary.answerKeep (m : KeepMark) (target : Byte) (n tag : Word16) :
    OrdinaryAnswer (answerMark m true target n tag) := by
  intro s
  unfold Machine.answerMark
  split
  · unfold Machine.answerMarkFrame
    split
    · exact .refl s
    · simp only
      split
      · exact .refl s
      · exact .updFrame s _ _ (.withMark m)
  · split
    · split
      · exact .refl s
      · exact .refl s
      · exact .foldl (fun t (p : Station × FrameId) => .updFrame t p.2 _ (.withMark m)) _ s
    · exact .refl s

theorem Ordinary.answerVerdict (mode : Byte) (n : Word16) (action mask : Byte) :
    OrdinaryAnswer (answerVerdict mode n action mask) := by
  intro s
  unfold Machine.answerVerdict
  split
  · exact .refl s
  · exact .refl s
  · exact .refl s
  · split
    · exact .refl s
    · split
      · exact .refl s
      · exact .updItem s _ _ (fun _ => rfl) fun _ => rfl

theorem Ordinary.answerForceDecision (mode : Byte) (n : Word16) (action : Byte) :
    OrdinaryAnswer (answerForceDecision mode n action) := by
  intro s
  unfold Machine.answerForceDecision
  split
  · exact .refl s
  · exact .refl s
  · exact .refl s
  · split
    · exact .refl s
    · split
      · exact .refl s
      · exact .updItem s _ _ (fun _ => rfl) fun _ => rfl

theorem answerItemView_fst (mode : Byte) (n : Word16) : (answerItemView mode n s).1 = s := by
  unfold Machine.answerItemView
  split <;> rfl

theorem Ordinary.answerItemView (mode : Byte) (n : Word16) : OrdinaryAnswer (answerItemView mode n) := fun s => by
  rw [answerItemView_fst]
  exact .refl s

theorem Ordinary.answerVoidItem (mode : Byte) (n : Word16) : OrdinaryAnswer (answerVoidItem mode n) := by
  intro s
  unfold Machine.answerVoidItem
  split
  · exact .refl s
  · exact .refl s
  · split
    · exact .voidRecord s _
    · exact .voidRecord s _
    · exact .voidRecord s _
    all_goals exact .refl s

theorem Ordinary.answerFetchRegion (number : Byte) (frame tag x y w h : Word16) (factor : Byte) :
    OrdinaryAnswer (answerFetchRegion number frame tag x y w h factor) := by
  intro s
  unfold Machine.answerFetchRegion
  simp only
  split_ifs with _ _ _ _ full
  all_goals try exact .refl s
  rw [Config.regionQueueCapacity] at full
  refine .of_untouched (.of_eq rfl fun _ => rfl) fun h =>
    ⟨h.triggers, h.fifos, h.parsers, h.receiver, ?_, h.reports, h.replies, h.goodRun⟩
  simp only [List.length_append, List.length_singleton]
  omega

end Sys2Proof.Machine
end

section
/-! What every command keeps: `Modest` weakens `Ordinary` for the commands that also move the link, the lamp or the line port's
exchange, and `Loose` weakens `Modest` for a RELEASE; `Lawful` is what holds of every command whatever, and `Obeys` bounds what it writes by a licence. -/

namespace Sys2Proof.Machine

open Sys2Proof.Safety

/-! ## Loose and modest changes -/

/-- A change that leaves position, memory, mode, settings, enables, contents of the banks and waiting commands alone, and is
otherwise ordinary but for the frames, which it may let go. -/
structure Loose (s t : State) : Prop where
  pos : t.pos = s.pos
  mem : t.store.mem = s.store.mem
  mode : t.port.mode = s.port.mode
  settings : t.port.settings = s.port.settings
  enables : t.port.enables = s.port.enables
  plans : t.plans = { s.plans with a.inUse := t.plans.a.inUse, b.inUse := t.plans.b.inUse }
  pending : t.pending = s.pending
  grows : Grows s t
  queue : QueueRuns s t
  roomy : Roomy s → Roomy t

/-- A loose change that guards the frames. -/
structure Modest (s t : State) : Prop extends Loose s t where
  guards : Guards s t

theorem Ordinary.modest {s t : State} (h : Ordinary s t) : Modest s t :=
  ⟨⟨h.pos, h.mem, h.mode, h.settings, h.enables, h.plans, h.pending, h.grows, h.queue, h.roomy⟩, h.guards⟩

theorem Modest.refl (s : State) : Modest s s :=
  (Ordinary.refl s).modest

theorem Loose.trans {s t u : State} (h : Loose s t) (g : Loose t u) : Loose s u where
  pos := g.pos.trans h.pos
  mem := g.mem.trans h.mem
  mode := g.mode.trans h.mode
  settings := g.settings.trans h.settings
  enables := g.enables.trans h.enables
  plans := by rw [g.plans, h.plans]
  pending := g.pending.trans h.pending
  grows := h.grows.trans g.grows
  queue := h.queue.trans g.queue
  roomy := g.roomy ∘ h.roomy

theorem Modest.trans {s t u : State} (h : Modest s t) (g : Modest t u) : Modest s u :=
  ⟨h.toLoose.trans g.toLoose, h.guards.trans g.guards⟩

/-- A change of the line port that leaves mode, settings and enables alone, keeps flags and lets counts grow, is modest. -/
theorem Modest.setPort (s : State) (p : LinePort) (mode : p.mode = s.port.mode := by rfl)
    (settings : p.settings = s.port.settings := by rfl) (enables : p.enables = s.port.enables := by rfl)
    (flags : s.port.flags ||| p.flags = p.flags := by exact BitVec.or_self)
    (counts : ∀ k : Fin 14, s.port.counts[k].toNat ≤ p.counts[k].toNat := by exact fun _ => le_rfl) :
    Modest s { s with port := p } :=
  ⟨⟨rfl, rfl, mode, settings, enables, rfl, rfl, ⟨flags, counts⟩, .of_eq rfl fun _ => rfl, fun h => h.of_eq⟩,
    .of_store_eq rfl rfl⟩

theorem Modest.followLamp (s : State) : Modest s (followLamp s) := by
  unfold Machine.followLamp
  split
  · exact .refl s
  · exact ⟨⟨rfl, rfl, rfl, rfl, rfl, rfl, rfl, .of_port_eq rfl rfl, .of_eq rfl fun _ => rfl, fun h => h.of_eq⟩,
      .of_store_eq rfl rfl⟩

/-- A change of the link that keeps receiver and run within their bounds is modest. -/
theorem Modest.setLink (s : State) (l : FibreLink) (receiver : receiverBound s.link.receiver = true → receiverBound l.receiver = true)
    (goodRun : s.link.goodRun ≤ 4 → l.goodRun ≤ 4) : Modest s { s with link := l } :=
  ⟨⟨rfl, rfl, rfl, rfl, rfl, rfl, rfl, .of_port_eq rfl rfl, .of_eq rfl fun _ => rfl, fun h =>
    ⟨h.triggers, h.fifos, h.parsers, receiver h.receiver, h.regions, h.reports, h.replies, goodRun h.goodRun⟩⟩,
    .of_store_eq rfl rfl⟩

/-- A change of a record is loose, whether or not it lets the record go. -/
theorem Loose.updFrame (s : State) (id : FrameId) (f : FrameRecord → FrameRecord) : Loose s (updFrame id f s) :=
  ⟨by simp, by simp, by simp, by simp, by simp, by simp, by simp, .of_port_eq (by simp) (by simp),
    .of_eq (by simp) fun n => by cases n <;> simp [bankOf], fun h => h.of_eq⟩

theorem Loose.foldl {α : Type} {f : State → α → State} (each : ∀ t a, Loose t (f t a)) (l : List α) (s : State) :
    Loose s (l.foldl f s) := by
  induction l generalizing s with
  | nil => exact (Modest.refl s).toLoose
  | cons a l ih => exact (each s a).trans (ih (f s a))

/-- KEEP and RELEASE (R113). -/
theorem Loose.answerMark (m : KeepMark) (v : Bool) (target : Byte) (n tag : Word16) (s : State) :
    Loose s (answerMark m v target n tag s).1 := by
  unfold Machine.answerMark
  split
  · unfold Machine.answerMarkFrame
    split
    · exact (Modest.refl s).toLoose
    · simp only
      split
      · exact (Modest.refl s).toLoose
      · exact .updFrame s _ _
  · split
    · split
      · exact (Modest.refl s).toLoose
      · exact (Modest.refl s).toLoose
      · exact .foldl (fun t (p : Station × FrameId) => .updFrame t p.2 _) _ s
    · exact (Modest.refl s).toLoose

section

variable {s t : State} (h : Loose s t)
include h

theorem Loose.active : t.plans.active = s.plans.active := by rw [h.plans]
theorem Loose.pendingSwap : t.plans.pendingSwap = s.plans.pendingSwap := by rw [h.plans]

theorem Loose.bankOf_eq (n : BankName) : bankOf n t = { bankOf n s with inUse := (bankOf n t).inUse } := by
  cases n <;> (simp only [bankOf]; rw [h.plans])

theorem Loose.valid_eq (n : BankName) : (bankOf n t).valid = (bankOf n s).valid := by
  rw [h.bankOf_eq n]

theorem Loose.planOf_eq (n : BankName) : planOf n t = planOf n s := by
  rw [planOf, h.bankOf_eq n]; rfl

end

/-! ## What holds of every command -/

/-- What every command keeps, the plans apart: the waiting commands, the invariants that need no other, and the course of the
queue. -/
structure Steady (s t : State) : Prop where
  pending : t.pending = s.pending
  memory : MemoryCanonical s → MemoryCanonical t
  bounds : WithinBounds s → WithinBounds t
  tags : TagsInTurn s → TagsInTurn t
  inUse : InUseCounted s → InUseCounted t
  settings : SettingsSound s → SettingsSound t
  runs : ∃ (k : Nat) (new : List (Tag × BankName × Word32)), new.length ≤ 1
    ∧ t.queue.items.map identity = (s.queue.items.map identity).drop k ++ new
  decided : TagsInTurn s → s.queue.items.length ≤ 128 →
    ∀ i ∈ s.queue.items, ∀ j ∈ t.queue.items, j.tag = i.tag → ∀ d, i.decision = some d → j.decision = some d

/-- What every command keeps. -/
structure Lawful (s t : State) : Prop extends Steady s t where
  plans : PlansSound s → PlansSound t

theorem withinBounds_iff {s : State} :
    WithinBounds s ↔ s.queue.items.length ≤ 128 ∧ s.pos.speed ≤ 65535 ∧ Roomy s :=
  ⟨fun h => ⟨h.items, h.speed, h.triggers, h.fifos, h.parsers, h.receiver, h.regions, h.reports, h.replies, h.goodRun⟩,
    fun ⟨items, speed, h⟩ => ⟨items, speed, h.triggers, h.fifos, h.parsers, h.receiver, h.regions, h.reports, h.replies,
      h.goodRun⟩⟩

/-- Tags in turn, said of the list of identities. -/
theorem tagsInTurn_iff {s : State} : TagsInTurn s ↔ ∀ (k : Nat) (x : Tag × BankName × Word32),
    (s.queue.items.map identity)[k]? = some x →
      (x.1.val + ((s.queue.items.map identity).length - k)) % 1024 = s.queue.nextTag.val := by
  simp only [TagsInTurn, List.getElem?_map, Option.map_eq_some_iff, List.length_map]
  exact ⟨fun h k x ⟨i, found, same⟩ => same ▸ h k i found, fun h k i found => h k _ ⟨i, found, rfl⟩⟩

/-- A queue of at most 128 records has 128 of the 1,024 tags, none twice (R1). -/
theorem tags_nodup_of_inTurn {s : State} (turn : TagsInTurn s) (room : s.queue.items.length ≤ 128) :
    (s.queue.items.map Item.tag).Nodup := by
  rw [List.nodup_iff_getElem?_ne_getElem?]
  intro i j below inside same
  rw [List.length_map] at inside
  simp only [List.getElem?_map, List.getElem?_eq_getElem (below.trans inside), List.getElem?_eq_getElem inside,
    Option.map_some, Option.some.injEq] at same
  have first := turn i _ (List.getElem?_eq_getElem (below.trans inside))
  have second := turn j _ (List.getElem?_eq_getElem inside)
  rw [same] at first
  omega

theorem Loose.tagsInTurn {s t : State} (h : Loose s t) (turn : TagsInTurn s) : TagsInTurn t := by
  obtain ⟨k, drop⟩ := h.queue.drops
  rw [tagsInTurn_iff] at turn ⊢
  intro n x found
  rw [drop, List.getElem?_drop] at found
  have inside := (List.getElem?_eq_some_iff.mp found).1
  rw [h.queue.nextTag, ← turn _ x found, drop, List.length_drop]
  congr 2
  omega

theorem Loose.plansSound {s t : State} (h : Loose s t) (sound : PlansSound s) : PlansSound t where
  good n valid := by
    rw [h.planOf_eq]
    exact sound.good n (h.valid_eq n ▸ valid)
  active running := by
    rw [h.active, h.valid_eq]
    exact sound.active (h.mode ▸ running)
  pending waits := by
    rw [h.active, h.valid_eq]
    exact sound.pending (h.pendingSwap ▸ waits)
  haltEmpty halt := by
    have := sound.haltEmpty (h.mode ▸ halt)
    simpa [this] using h.queue.length_le
  haltSettled halt := h.pendingSwap ▸ sound.haltSettled (h.mode ▸ halt)

theorem settingsSound_of_eq {s t : State} (h : SettingsSound s) (settings : t.port.settings = s.port.settings)
    (residue : t.pos.residue = s.pos.residue) : SettingsSound t :=
  ⟨settings ▸ h.inRange, by rw [settings, residue]; exact h.residueLow, by rw [settings, residue]; exact h.residueHigh⟩

theorem Loose.lawful {s t : State} (h : Loose s t) : Lawful s t where
  pending := h.pending
  memory canonical := by
    rw [MemoryCanonical, h.mem]
    exact canonical
  bounds := fun bounds => by
    obtain ⟨items, speed, roomy⟩ := withinBounds_iff.mp bounds
    exact withinBounds_iff.mpr ⟨h.queue.length_le.trans items, h.pos ▸ speed, h.roomy roomy⟩
  tags := h.tagsInTurn
  inUse := h.queue.inUse
  plans := h.plansSound
  settings sound := settingsSound_of_eq sound h.settings (by rw [h.pos])
  runs := by
    obtain ⟨k, drop⟩ := h.queue.drops
    exact ⟨k, [], Nat.zero_le 1, by rw [drop, List.append_nil]⟩
  decided turn room := h.queue.decided (tags_nodup_of_inTurn turn room)

theorem Modest.lawful {s t : State} (h : Modest s t) : Lawful s t :=
  h.toLoose.lawful

theorem Ordinary.lawful {s t : State} (h : Ordinary s t) : Lawful s t :=
  h.modest.lawful

/-- A steady change after one that leaves the queue alone. -/
theorem Steady.after {s t u : State} (h : Steady s t) (same : t.queue = s.queue) (g : Steady t u) : Steady s u where
  pending := g.pending.trans h.pending
  memory := g.memory ∘ h.memory
  bounds := g.bounds ∘ h.bounds
  tags := g.tags ∘ h.tags
  inUse := g.inUse ∘ h.inUse
  settings := g.settings ∘ h.settings
  runs := same ▸ g.runs
  decided turn room := by
    have := g.decided (h.tags turn)
    rw [same] at this
    exact this room

/-- A steady change before one that leaves the queue alone. -/
theorem Steady.before {s t u : State} (h : Steady s t) (g : Steady t u) (same : u.queue = t.queue) : Steady s u where
  pending := g.pending.trans h.pending
  memory := g.memory ∘ h.memory
  bounds := g.bounds ∘ h.bounds
  tags := g.tags ∘ h.tags
  inUse := g.inUse ∘ h.inUse
  settings := g.settings ∘ h.settings
  runs := same ▸ h.runs
  decided := same ▸ h.decided

theorem Lawful.after {s t u : State} (h : Lawful s t) (same : t.queue = s.queue) (g : Lawful t u) : Lawful s u :=
  ⟨h.toSteady.after same g.toSteady, g.plans ∘ h.plans⟩

theorem Lawful.before {s t u : State} (h : Lawful s t) (g : Lawful t u) (same : u.queue = t.queue) : Lawful s u :=
  ⟨h.toSteady.before g.toSteady same, g.plans ∘ h.plans⟩

/-- Lawful where the Position Unit moves too, and keeps speed and residue in their ranges. -/
theorem Lawful.of_moved {s t : State} {p : PositionUnit} (h : Lawful { s with pos := p } t)
    (speed : s.pos.speed ≤ 65535 → p.speed ≤ 65535)
    (residue : SettingsSound s → SettingsSound { s with pos := p }) : Lawful s t where
  pending := h.pending
  memory := h.memory
  bounds bounds := by
    obtain ⟨items, quick, roomy⟩ := withinBounds_iff.mp bounds
    exact h.bounds (withinBounds_iff.mpr ⟨items, speed quick, roomy.of_eq⟩)
  tags := h.tags
  inUse := h.inUse
  plans sound := h.plans ⟨sound.good, sound.active, sound.pending, sound.haltEmpty, sound.haltSettled⟩
  settings := h.settings ∘ residue
  runs := h.runs
  decided := h.decided

/-- A change of line port and plans is steady where settings and in-use counts stay. -/
theorem Steady.setPort (s : State) (p : LinePort) (q : PlanStore) (settings : p.settings = s.port.settings)
    (a : q.a.inUse = s.plans.a.inUse) (b : q.b.inUse = s.plans.b.inUse) : Steady s { s with port := p, plans := q } where
  pending := rfl
  memory := id
  bounds bounds := by
    obtain ⟨items, quick, roomy⟩ := withinBounds_iff.mp bounds
    exact withinBounds_iff.mpr ⟨items, quick, roomy.of_eq⟩
  tags := id
  inUse counted n := by
    rw [← counted n]
    cases n
    · exact a
    · exact b
  settings sound := settingsSound_of_eq sound settings rfl
  runs := ⟨0, [], Nat.zero_le 1, by simp⟩
  decided turn room := (Modest.refl s).lawful.decided turn room

/-- A change of the line port that leaves settings and mode alone is lawful. -/
theorem Lawful.setPort (s : State) (p : LinePort) (mode : p.mode = s.port.mode) (settings : p.settings = s.port.settings) :
    Lawful s { s with port := p } where
  toSteady := .setPort s p s.plans settings rfl rfl
  plans sound := ⟨sound.good, fun h => sound.active (mode ▸ h), sound.pending, fun h => sound.haltEmpty (mode ▸ h),
    fun h => sound.haltSettled (mode ▸ h)⟩

/-! ## What a licence allows -/

/-- What a command may write, and whether it may let kept frames go, beyond what a modest change does. -/
structure Licence where
  residue : Bool := false
  settings : Bool := false
  enables : Bool := false
  mode : Bool := false
  contents : Bool := false
  flags : Bool := false
  counts : Bool := false
  frames : Bool := false

/-- A change stays within a licence. -/
structure Obeys (l : Licence) (s t : State) : Prop where
  pos : t.pos = { s.pos with residue := t.pos.residue }
  residue : l.residue = false → t.pos.residue = s.pos.residue
  mem : t.store.mem = s.store.mem
  settings : l.settings = false → t.port.settings = s.port.settings
  enables : l.enables = false → t.port.enables = s.port.enables
  mode : l.mode = false → t.port.mode = s.port.mode
  contents : l.contents = false → ∀ n, planOf n t = planOf n s
  flags : l.flags = false → s.port.flags ||| t.port.flags = t.port.flags
  counts : l.counts = false → ∀ k : Fin 14, s.port.counts[k].toNat ≤ t.port.counts[k].toNat
  guards : l.frames = false → Guards s t

theorem Loose.obeys {s t : State} (h : Loose s t) {l : Licence} (guards : l.frames = false → Guards s t) : Obeys l s t where
  pos := by rw [h.pos]
  residue _ := by rw [h.pos]
  mem := h.mem
  settings _ := h.settings
  enables _ := h.enables
  mode _ := h.mode
  contents _ := h.planOf_eq
  flags _ := h.grows.flags
  counts _ := h.grows.counts
  guards := guards

theorem Modest.obeys {s t : State} (h : Modest s t) (l : Licence) : Obeys l s t :=
  h.toLoose.obeys fun _ => h.guards

theorem Obeys.trans {l : Licence} {s t u : State} (h : Obeys l s t) (g : Obeys l t u) : Obeys l s u where
  pos := by
    conv_lhs => rw [g.pos, h.pos]
  residue no := (g.residue no).trans (h.residue no)
  mem := g.mem.trans h.mem
  settings no := (g.settings no).trans (h.settings no)
  enables no := (g.enables no).trans (h.enables no)
  mode no := (g.mode no).trans (h.mode no)
  contents no n := (g.contents no n).trans (h.contents no n)
  flags no := by rw [← g.flags no, ← BitVec.or_assoc, h.flags no]
  counts no k := (h.counts no k).trans (g.counts no k)
  guards no := (h.guards no).trans (g.guards no)

theorem Obeys.pos_eq {l : Licence} {s t : State} (h : Obeys l s t) (no : l.residue = false) : t.pos = s.pos := by
  rw [h.pos, h.residue no]

/-- A change of the line port obeys the licence that it needs. -/
theorem Obeys.setPort (l : Licence) (s : State) (p : LinePort) (settings : l.settings = false → p.settings = s.port.settings)
    (enables : l.enables = false → p.enables = s.port.enables) (mode : l.mode = false → p.mode = s.port.mode)
    (flags : l.flags = false → s.port.flags ||| p.flags = p.flags)
    (counts : l.counts = false → ∀ k : Fin 14, s.port.counts[k].toNat ≤ p.counts[k].toNat) : Obeys l s { s with port := p } :=
  ⟨rfl, fun _ => rfl, rfl, settings, enables, mode, fun _ _ => rfl, flags, counts, fun _ => .of_store_eq rfl rfl⟩

end Sys2Proof.Machine
end

section
/-! The nineteen requests: each is lawful and obeys its licence. -/

namespace Sys2Proof.Machine

open Sys2Proof.Safety

variable (s : State)

/-! ## Creations (R8) -/

theorem bankOf_withCreation_valid (e : Word32) (n : BankName) : (bankOf n (withCreation e s)).valid = (bankOf n s).valid := by
  cases n <;> rfl

theorem planOf_withCreation (e : Word32) (n : BankName) : planOf n (withCreation e s) = planOf n s := by
  cases n <;> rfl

/-- The new record's bank counts it. -/
theorem inUse_withCreation (e : Word32) (n : BankName) :
    (bankOf n (withCreation e s)).inUse = (bankOf n s).inUse + if creationBank s = n then 1 else 0 := by
  cases n <;> rfl

theorem items_withCreation (e : Word32) :
    (withCreation e s).queue.items = s.queue.items ++ [newRecord (creationBank s) e s] :=
  rfl

theorem withCreation_obeys (e : Word32) (l : Licence) : Obeys l s (withCreation e s) where
  pos := rfl
  residue _ := rfl
  mem := rfl
  settings _ := rfl
  enables _ := rfl
  mode _ := rfl
  contents _ := planOf_withCreation s e
  flags _ := by
    simp only [withCreation]
    split
    · rw [← BitVec.or_assoc, BitVec.or_self]
    · exact BitVec.or_self
  counts _ _ := le_rfl
  guards _ := .of_store_eq rfl rfl

theorem tagsInTurn_withCreation (e : Word32) (turn : TagsInTurn s) : TagsInTurn (withCreation e s) := by
  intro k i found
  rw [items_withCreation] at found ⊢
  have next : (withCreation e s).queue.nextTag.val = (s.queue.nextTag.val + 1) % 1024 := by
    simp [withCreation, Fin.val_add]
  rw [next, List.length_append, List.length_singleton]
  rcases Nat.lt_or_ge k s.queue.items.length with old | new
  · rw [List.getElem?_append_left old] at found
    have := turn k i found
    omega
  · have inside := (List.getElem?_eq_some_iff.mp found).1
    rw [List.length_append, List.length_singleton] at inside
    have last : k = s.queue.items.length := by omega
    subst last
    rw [List.getElem?_concat_length, Option.some.injEq] at found
    have tag : i.tag = s.queue.nextTag := by rw [← found]; rfl
    rw [tag, Nat.add_sub_cancel_left]

/-- No record of a queue with room carries the tag that comes next (R1, R4). -/
theorem tag_ne_nextTag {s : State} (turn : TagsInTurn s) (room : s.queue.items.length ≤ 128) {i : Item}
    (member : i ∈ s.queue.items) : i.tag ≠ s.queue.nextTag := by
  obtain ⟨k, inside, rfl⟩ := List.getElem_of_mem member
  have := turn k _ (List.getElem?_eq_getElem inside)
  intro same
  rw [same] at this
  omega

theorem withCreation_lawful (e : Word32) (running : s.port.mode ≠ .halt) (room : s.queue.items.length < 128) :
    Lawful s (withCreation e s) where
  pending := rfl
  memory := id
  bounds bounds := by
    obtain ⟨_, quick, roomy⟩ := withinBounds_iff.mp bounds
    refine withinBounds_iff.mpr ⟨?_, quick, roomy.of_eq (by rfl) (by rfl) (by rfl) (by rfl) (by rfl) (by rfl) (by rfl)⟩
    rw [items_withCreation, List.length_append]
    exact room
  tags := tagsInTurn_withCreation s e
  inUse counted n := by
    rw [inUse_withCreation, counted n, items_withCreation, List.countP_append]
    simp [newRecord]
  plans sound := by
    refine ⟨fun n valid => ?_, fun _ => ?_, fun waits => ?_, fun halt => absurd halt running, fun halt => absurd halt running⟩
    · rw [planOf_withCreation]
      exact sound.good n (bankOf_withCreation_valid s e n ▸ valid)
    · rw [bankOf_withCreation_valid]
      change (bankOf (creationBank s) s).valid = true
      unfold creationBank
      split
      · exact sound.pending ‹_›
      · exact sound.active running
    · exact absurd waits Bool.false_ne_true
  settings sound := settingsSound_of_eq sound rfl rfl
  runs := ⟨0, [(s.queue.nextTag, creationBank s, e)], le_rfl, by simp [items_withCreation, identity, newRecord]⟩
  decided turn room i member j found tag d decision := by
    rw [items_withCreation, List.mem_append, List.mem_singleton] at found
    rcases found with old | rfl
    · exact (Modest.refl s).lawful.decided turn room i member j old tag d decision
    · exact absurd tag.symm (tag_ne_nextTag turn room member)

/-- An entry offered to the queue outside HALT creates a record or is refused (R5). -/
theorem offerEntry_cases (e : Word32) :
    (s.queue.items.length < 128 ∧ offerEntry e s = withCreation e s) ∨ Ordinary s (offerEntry e s) := by
  unfold offerEntry
  by_cases room : s.queue.items.length < 128
  · rw [(queueFull_eq_false_iff s).mpr room, if_neg Bool.false_ne_true]
    split
    · exact .inl ⟨room, createItem_eq s e⟩
    · exact .inr ((Ordinary.raise s _).trans (.bump _ _))
  · rw [(queueFull_iff s).mpr (Nat.not_lt.mp room), if_pos rfl]
    exact .inr ((Ordinary.raise s _).trans (.bump _ _))

/-! ## What the owners' answers leave -/

/-- What a request may write. -/
def requestLicence : LineRequest → Licence
  | .setMode _ => { mode := true }
  | .configure _ => { residue := true, settings := true }
  | .writePlan _ => { contents := true }
  | .clearEvents _ => { flags := true }
  | .setEventEnables _ => { enables := true }
  | .readCounts _ => { counts := true }
  | .clear => { mode := true, flags := true, frames := true }
  | .release _ _ _ => { frames := true }
  | _ => {}

theorem Modest.answerReadStatus : Modest s (answerReadStatus s).1 :=
  .setPort s { s.port with resetSeen := false }

theorem Modest.answerSetEvents (marks : Word16) : Modest s (answerSetEvents marks s).1 :=
  .setPort s { s.port with flags := s.port.flags ||| marks } (flags := by rw [← BitVec.or_assoc, BitVec.or_self])

theorem Modest.answerReadPlan (bank : Byte) : Modest s (answerReadPlan bank s).1 := by
  unfold Machine.answerReadPlan
  split <;> exact .refl s

theorem answerAnnounceItem_cases (back : Word16) :
    (s.port.mode ≠ .halt ∧ s.queue.items.length < 128 ∧ ∃ e, (answerAnnounceItem back s).1 = withCreation e s)
      ∨ Modest s (answerAnnounceItem back s).1 := by
  unfold answerAnnounceItem
  simp only
  split_ifs with halt source full close
  · exact .inr (.refl s)
  · exact .inr (.refl s)
  · exact .inr ((Ordinary.raise s _).trans (.bump _ _)).modest
  · exact .inr (.refl s)
  · exact .inl ⟨halt, (queueFull_eq_false_iff s).mp (Bool.eq_false_iff.mpr full), _, createItem_eq s _⟩

/-! ## SET MODE -/

theorem enterMode_obeys (m : Mode) : Obeys { mode := true } s (enterMode m s) := by
  have moved : Obeys { mode := true } s { s with port.mode := m } :=
    .setPort _ s _ (fun _ => rfl) (fun _ => rfl) nofun (fun _ => BitVec.or_self) fun _ _ => le_rfl
  have swapped (t : State) : Obeys { mode := true } t (swapIfPending t) := by
    unfold swapIfPending
    split
    · exact ⟨rfl, fun _ => rfl, rfl, fun _ => rfl, fun _ => rfl, nofun, fun _ n => by cases n <;> rfl,
        fun _ => (Grows.raise t _).flags, fun _ => (Grows.raise t _).counts, fun _ => .of_store_eq rfl rfl⟩
    · exact (Modest.refl t).obeys _
  cases m with
  | run => exact moved.trans ((Modest.followLamp _).obeys _)
  | trackOnly => exact (moved.trans ((Ordinary.skipAllQueued _).modest.obeys _)).trans ((Modest.followLamp _).obeys _)
  | halt =>
    exact ((moved.trans ((Ordinary.skipAllQueued _).modest.obeys _)).trans (swapped _)).trans ((Modest.followLamp _).obeys _)

theorem Lawful.lit {s t : State} (h : Lawful s t) : Lawful s (followLamp t) :=
  h.before (Modest.followLamp t).lawful (followLamp_queue t)

/-- A pending swap taken in HALT leaves the plans sound. -/
theorem plansSound_swapIfPending {s : State} (good : ∀ n, (bankOf n s).valid = true → (planOf n s).firstFailure = none)
    (halt : s.port.mode = .halt) (empty : s.queue.items = []) : PlansSound (swapIfPending s) := by
  rw [swapIfPending_eq]
  exact ⟨good, fun running => absurd halt running, nofun, fun _ => empty, fun _ => rfl⟩

theorem Steady.swapIfPending : Steady s (swapIfPending s) := by
  rw [swapIfPending_eq]
  exact .setPort s _ _ rfl rfl rfl

theorem enterMode_lawful {m : Mode} (empty : m = .halt → s.queue.items = [])
    (valid : s.port.mode = .halt → (bankOf s.plans.active s).valid = true) : Lawful s (enterMode m s) := by
  have active (sound : PlansSound s) : (bankOf s.plans.active s).valid = true := by
    by_cases halt : s.port.mode = .halt
    · exact valid halt
    · exact sound.active halt
  have steady : Steady s { s with port.mode := m } := .setPort s _ s.plans rfl rfl rfl
  have moved (running : m ≠ .halt) : Lawful s { s with port.mode := m } :=
    ⟨steady, fun sound => ⟨sound.good, fun _ => active sound, sound.pending, fun halt => absurd halt running,
      fun halt => absurd halt running⟩⟩
  cases m with
  | run => exact (moved nofun).lit
  | trackOnly => exact ((moved nofun).after rfl (Ordinary.skipAllQueued _).lawful).lit
  | halt =>
    have skipped := Ordinary.skipAllQueued { s with port.mode := .halt }
    refine Lawful.lit (t := swapIfPending (skipAllQueued { s with port.mode := .halt }))
      ⟨(steady.after rfl skipped.lawful.toSteady).before (.swapIfPending _) (swapIfPending_queue _), fun sound => ?_⟩
    refine plansSound_swapIfPending (fun n good => ?_) skipped.mode ?_
    · rw [skipped.planOf_eq]
      rw [skipped.bankOf_eq] at good
      exact sound.good n good
    · have := skipped.queue.length_le
      rw [empty rfl, List.length_nil, Nat.le_zero] at this
      exact List.eq_nil_of_length_eq_zero this

/-- SET MODE is refused or enters a mode that it may enter (R180). -/
theorem answerSetMode_cases (mode : Byte) :
    (answerSetMode mode s).1 = s ∨ ∃ m, (answerSetMode mode s).1 = enterMode m s ∧ (m = .halt → s.queue.items = [])
      ∧ (s.port.mode = .halt → (bankOf s.plans.active s).valid = true) := by
  unfold answerSetMode
  split
  · exact .inl rfl
  · rename_i m _
    unfold judgeMode
    split_ifs with same occupied invalid
    · exact .inl rfl
    · exact .inl rfl
    · exact .inl rfl
    · exact .inr ⟨m, rfl, by simpa using occupied, by simpa using invalid⟩

/-! ## CONFIGURE: one setting written (R182) -/

theorem isSome_inRange {b : Bool} {c : Settings} : (inRange b c).isSome = b := by
  cases b <;> simp [inRange]

theorem isSome_actionOf {v : Nat} : (actionOf v).isSome = decide (v ≤ 2) := by
  match v with
  | 0 | 1 | 2 | v + 3 => simp [actionOf]

theorem code_of_actionOf {v : Nat} {a : Action} (h : actionOf v = some a) : a.code.toNat = v := by
  match v, h with
  | 0, h | 1, h | 2, h => cases h; rfl

theorem forall_inRange_iff {b : Bool} {c : Settings} {P : Settings → Prop} :
    (∀ d, inRange b c = some d → P d) ↔ (b = true → P c) := by
  cases b <;> simp [inRange]

theorem forall_withAction_iff {v : Nat} {f : Action → Settings} {P : Settings → Prop} :
    (∀ d, withAction v f = some d → P d) ↔ ∀ a, actionOf v = some a → P (f a) := by
  simp [withAction]

/-- A setting item is written exactly where it is in the range of its row of R182's table. -/
theorem isSome_write_iff (c : Settings) (n v : Nat) : (c.write n v).isSome = true ↔ settingOk n v := by
  rcases Nat.lt_or_ge n 19 with small | large
  · interval_cases n
    all_goals
      simp [Settings.write, isSome_inRange, withAction, settingOk, isSome_actionOf, -List.contains_eq_mem]
  · match n, large with
    | n + 19, _ => simp [Settings.write, settingOk]

/-- A setting item written replaces its own setting's value and no other. -/
theorem values_write {c : Settings} {n v : Nat} : ∀ d, c.write n v = some d → d.values = c.values.set n v := by
  match n with
  | 1 | 2 | 13 | 14 =>
    simp only [Settings.write, forall_inRange_iff, Settings.values, List.set]
    intro ok
    rw [decide_eq_true_eq] at ok
    interval_cases v <;> rfl
  | 9 | 10 | 11 | 12 =>
    simp only [Settings.write, forall_withAction_iff, Settings.values, List.set]
    exact fun a known => by simp [code_of_actionOf known]
  | 0 | 3 | 4 | 5 | 6 | 7 | 8 | 15 | 16 | 17 | 18 =>
    simp only [Settings.write, forall_inRange_iff, Settings.values, List.set]
    exact fun _ => trivial
  | n + 19 => exact fun _ => nofun

/-- Settings are in range where each of the nineteen values is in the range of its row. -/
theorem settingsInRange_iff {c : Settings} :
    SettingsInRange c ↔ ∀ n v, c.values[n]? = some v → settingOk n v := by
  constructor
  · rintro ⟨prescaler, pitch, rate, allowance, factor, timeout, period, reject, rework, watermark, loss⟩ n v found
    have action (a : Action) : a.code.toNat ≤ 2 := by cases a <;> decide
    match n, found with
    | 0, rfl | 3, rfl | 4, rfl | 5, rfl | 6, rfl | 7, rfl | 8, rfl | 15, rfl | 16, rfl | 17, rfl | 18, rfl =>
      simp [settingOk, *] at *
    | 1, rfl => cases c.polarity <;> simp [settingOk] <;> decide
    | 2, rfl => cases c.entrySource <;> simp [settingOk] <;> decide
    | 9, rfl | 10, rfl | 11, rfl | 12, rfl => simpa [settingOk] using action _
    | 13, rfl => cases c.autoKeep <;> simp [settingOk] <;> decide
    | 14, rfl => cases c.haltMode <;> simp [settingOk] <;> decide
  · intro h
    refine ⟨?_, ?_, ?_, ?_, ?_, ?_, ?_, ?_, ?_, ?_, ?_⟩
    · simpa [settingOk] using h 0 _ rfl
    · simpa [settingOk] using h 3 _ rfl
    · simpa [settingOk] using h 4 _ rfl
    · simpa [settingOk] using h 5 _ rfl
    · simpa [settingOk] using h 6 _ rfl
    · simpa [settingOk] using h 7 _ rfl
    · simpa [settingOk] using h 8 _ rfl
    · simpa [settingOk] using h 15 _ rfl
    · simpa [settingOk] using h 16 _ rfl
    · simpa [settingOk] using h 17 _ rfl
    · simpa [settingOk] using h 18 _ rfl

theorem settingsInRange_of_write {c d : Settings} {n v : Nat} (h : c.write n v = some d) (sound : SettingsInRange c) :
    SettingsInRange d := by
  rw [settingsInRange_iff] at sound ⊢
  intro k u found
  rw [values_write d h, List.getElem?_set] at found
  split_ifs at found with same small
  · cases found
    exact same ▸ (isSome_write_iff c n v).mp (h ▸ rfl)
  · exact sound k u found

theorem settingsInRange_of_writeAll {items : List SettingItem} {c d : Settings} {place : Nat}
    (h : c.writeAll items place = .ok d) (sound : SettingsInRange c) : SettingsInRange d := by
  induction items generalizing c place with
  | nil => exact (Except.ok.inj h) ▸ sound
  | cons i rest ih =>
    rw [Settings.writeAll] at h
    split at h
    · exact ih h (settingsInRange_of_write ‹_› sound)
    · exact nomatch h

/-- New settings in HALT leave the residue in range, or at 0 (R24, R25). -/
theorem settingsSound_applySettings {s : State} {c : Settings} (range : SettingsInRange c) (sound : SettingsSound s) :
    SettingsSound (applySettings c s) := by
  refine ⟨range, ?_, ?_⟩
  all_goals
    have positive : 0 < c.prescaler := by
      have := range.1
      simp only [List.mem_cons, List.not_mem_nil, or_false] at this
      omega
    have low := sound.residueLow
    have high := sound.residueHigh
    simp only [applySettings]
    split
    · rename_i same
      rw [same.1]
      assumption
    · omega

theorem answerConfigure_cases (items : List SettingItem) : (answerConfigure items s).1 = s
    ∨ ∃ c, (answerConfigure items s).1 = applySettings c s ∧ (SettingsInRange s.port.settings → SettingsInRange c) := by
  unfold answerConfigure
  split
  · exact .inl rfl
  · split
    · exact .inr ⟨_, rfl, settingsInRange_of_writeAll ‹_›⟩
    · exact .inl rfl

theorem applySettings_obeys (c : Settings) : Obeys { residue := true, settings := true } s (applySettings c s) :=
  ⟨rfl, nofun, rfl, nofun, fun _ => rfl, fun _ => rfl, fun _ _ => rfl, fun _ => BitVec.or_self, fun _ _ => le_rfl,
    fun _ => .of_store_eq rfl rfl⟩

theorem applySettings_lawful {c : Settings} (range : SettingsInRange s.port.settings → SettingsInRange c) :
    Lawful s (applySettings c s) where
  pending := rfl
  memory := id
  bounds bounds := by
    obtain ⟨items, quick, roomy⟩ := withinBounds_iff.mp bounds
    exact withinBounds_iff.mpr ⟨items, quick, roomy.of_eq (by rfl) (by rfl) (by rfl) (by rfl) (by rfl) (by rfl) (by rfl)⟩
  tags := id
  inUse := id
  plans sound := ⟨sound.good, sound.active, sound.pending, sound.haltEmpty, sound.haltSettled⟩
  settings sound := settingsSound_applySettings (range sound.inRange) sound
  runs := ⟨0, [], Nat.zero_le 1, by simp [applySettings]⟩
  decided turn room := (Modest.refl s).lawful.decided turn room

/-! ## WRITE PLAN and COMMIT PLAN -/

/-- A change of the contents or the validity of one bank is steady. -/
theorem Steady.updBank (n : BankName) (f : PlanBank → PlanBank) (same : ∀ b, (f b).inUse = b.inUse) :
    Steady s (updBank n f s) := by
  cases n
  · exact .setPort s s.port _ rfl (same _) rfl
  · exact .setPort s s.port _ rfl rfl (same _)

theorem bankOf_updBank (m n : BankName) (f : PlanBank → PlanBank) :
    bankOf m (updBank n f s) = if m = n then f (bankOf m s) else bankOf m s := by
  cases m <;> cases n <;> rfl

theorem planOf_setValid (m n : BankName) (v : Bool) : planOf m (setValid n v s) = planOf m s := by
  cases m <;> cases n <;> rfl

theorem valid_setValid (m n : BankName) (v : Bool) :
    (bankOf m (setValid n v s)).valid = if m = n then v else (bankOf m s).valid := by
  cases m <;> cases n <;> rfl

theorem BankName.other_ne (n : BankName) : n.other ≠ n := by
  cases n <;> nofun

/-- WRITE PLAN replaces a bank that is not active while no swap is pending, or changes nothing (R43). -/
theorem answerWritePlan_cases (p : PlanPayload) : (answerWritePlan p s).1 = s
    ∨ ∃ n, s.plans.pendingSwap = false ∧ n ≠ s.plans.active
      ∧ (answerWritePlan p s).1 = updBank n (fun b => { b with plan := payloadPlan p, valid := false }) s := by
  unfold answerWritePlan
  split
  · exact .inl rfl
  · exact .inl rfl
  · rename_i n _ _
    split_ifs with pending used
    · exact .inl rfl
    · exact .inl rfl
    · exact .inr ⟨n, by simpa using pending, fun h => used (.inl h), rfl⟩

theorem replaceBank_lawful {n : BankName} (q : Plan) (settled : s.plans.pendingSwap = false) (shadow : n ≠ s.plans.active) :
    Lawful s (updBank n (fun b => { b with plan := q, valid := false }) s) where
  toSteady := .updBank s n _ fun _ => rfl
  plans sound := by
    refine ⟨fun m => ?_, fun running => ?_, fun waits => ?_, fun halt => ?_, fun halt => ?_⟩
    · rw [planOf, bankOf_updBank]
      split
      · nofun
      · exact sound.good m
    · rw [updBank_plans_active, bankOf_updBank, if_neg shadow.symm]
      exact sound.active (by simpa using running)
    · rw [updBank_plans_pendingSwap, settled] at waits
      exact absurd waits Bool.false_ne_true
    · rw [updBank_queue]
      exact sound.haltEmpty (by simpa using halt)
    · rw [updBank_plans_pendingSwap, settled]

theorem updBank_obeys (n : BankName) (f : PlanBank → PlanBank) : Obeys { contents := true } s (updBank n f s) := by
  cases n <;> exact ⟨rfl, fun _ => rfl, rfl, fun _ => rfl, fun _ => rfl, fun _ => rfl, nofun, fun _ => BitVec.or_self,
    fun _ _ => le_rfl, fun _ => .of_store_eq rfl rfl⟩

/-- COMMIT PLAN sets the validity of one bank by its check; the bank found valid is active already, is swapped in in HALT, or
waits (R46). -/
theorem answerCommitPlan_cases (bank : Byte) :
    (answerCommitPlan bank s).1 = s ∨ ∃ n, s.plans.pendingSwap = false ∧
      ((∃ x, (planOf n s).firstFailure = some x ∧ (answerCommitPlan bank s).1 = setValid n false s)
        ∨ (planOf n s).firstFailure = none ∧
          ((answerCommitPlan bank s).1 = setValid n true s
            ∨ n ≠ s.plans.active ∧ s.port.mode = .halt ∧ (answerCommitPlan bank s).1 = swapBanks (setValid n true s)
            ∨ n ≠ s.plans.active ∧ s.port.mode ≠ .halt
              ∧ (answerCommitPlan bank s).1 = { setValid n true s with plans.pendingSwap := true })) := by
  unfold answerCommitPlan
  split
  · exact .inl rfl
  · rename_i n _
    split
    · exact .inl rfl
    · rename_i pending
      refine .inr ⟨n, by simpa using pending, ?_⟩
      split
      · rename_i failure
        exact .inl ⟨_, failure, rfl⟩
      · rename_i sound
        refine .inr ⟨sound, ?_⟩
        split_ifs with active halt
        · exact .inl rfl
        · exact .inr (.inl ⟨active, halt, rfl⟩)
        · exact .inr (.inr ⟨active, halt, rfl⟩)

/-- A bank's validity written as its contents deserve keeps the plans sound; an active bank that is VALID has good contents. -/
theorem plansSound_setValid {s : State} {n : BankName} {v : Bool} (settled : s.plans.pendingSwap = false)
    (judged : v = true ↔ (planOf n s).firstFailure = none) (sound : PlansSound s) : PlansSound (setValid n v s) := by
  refine ⟨fun m => ?_, fun running => ?_, fun waits => ?_, fun halt => ?_, fun halt => ?_⟩
  · rw [planOf_setValid, valid_setValid]
    split
    · rename_i same
      exact same ▸ judged.mp
    · exact sound.good m
  · rw [valid_setValid, setValid, updBank_plans_active]
    have active := sound.active (by simpa [setValid] using running)
    split
    · rename_i same
      exact judged.mpr (same ▸ sound.good _ active)
    · exact active
  · rw [setValid, updBank_plans_pendingSwap, settled] at waits
    exact absurd waits Bool.false_ne_true
  · rw [setValid, updBank_queue]
    exact sound.haltEmpty (by simpa [setValid] using halt)
  · rw [setValid, updBank_plans_pendingSwap, settled]

theorem answerCommitPlan_lawful (bank : Byte) : Lawful s (answerCommitPlan bank s).1 := by
  have steady (n : BankName) (v : Bool) : Steady s (setValid n v s) := .updBank s n _ fun _ => rfl
  obtain same | ⟨n, settled, ⟨x, failure, same⟩ | ⟨good, same | ⟨shadow, halt, same⟩ | ⟨shadow, running, same⟩⟩⟩ :=
    answerCommitPlan_cases s bank
  all_goals rw [same]
  · exact (Modest.refl s).lawful
  · exact ⟨steady n false, plansSound_setValid settled (by simp [failure])⟩
  · exact ⟨steady n true, plansSound_setValid settled (by simp [good])⟩
  · refine ⟨(steady n true).before (.setPort _ _ _ rfl rfl rfl) rfl, fun sound => ?_⟩
    have valid := plansSound_setValid (n := n) (v := true) settled (by simp [good]) sound
    exact ⟨valid.good, fun running => absurd (by simpa [setValid] using halt) running, nofun, valid.haltEmpty, fun _ => rfl⟩
  · refine ⟨(steady n true).before (.setPort _ _ _ rfl rfl rfl) rfl, fun sound => ?_⟩
    have valid := plansSound_setValid (n := n) (v := true) settled (by simp [good]) sound
    refine ⟨valid.good, valid.active, fun _ => ?_, valid.haltEmpty, fun halt => absurd (by simpa [setValid] using halt) running⟩
    change (bankOf (setValid n true s).plans.active.other (setValid n true s)).valid = true
    rw [setValid, updBank_plans_active, BankName.other_eq_of_ne shadow, ← setValid, valid_setValid, if_pos rfl]

theorem answerCommitPlan_obeys (bank : Byte) : Obeys {} s (answerCommitPlan bank s).1 := by
  have validated (n : BankName) (v : Bool) : Obeys {} s (setValid n v s) :=
    ⟨by cases n <;> rfl, fun _ => by cases n <;> rfl, by cases n <;> rfl, fun _ => by cases n <;> rfl,
      fun _ => by cases n <;> rfl, fun _ => by cases n <;> rfl, fun _ m => planOf_setValid s m n v,
      fun _ => by rw [setValid, updBank_port, BitVec.or_self], fun _ _ => by rw [setValid, updBank_port],
      fun _ => .of_store_eq (by rw [setValid, updBank_store]) (by rw [setValid, updBank_store])⟩
  obtain same | ⟨n, settled, ⟨x, failure, same⟩ | ⟨good, same | ⟨shadow, halt, same⟩ | ⟨shadow, running, same⟩⟩⟩ :=
    answerCommitPlan_cases s bank
  all_goals rw [same]
  · exact (Modest.refl s).obeys _
  · exact validated n false
  · exact validated n true
  · refine (validated n true).trans ⟨rfl, fun _ => rfl, rfl, fun _ => rfl, fun _ => rfl, fun _ => rfl, fun _ m => ?_,
      fun _ => (Grows.raise _ .planSwapped).flags, fun _ => (Grows.raise _ .planSwapped).counts,
      fun _ => .of_store_eq rfl rfl⟩
    cases m <;> rfl
  · exact (validated n true).trans ⟨rfl, fun _ => rfl, rfl, fun _ => rfl, fun _ => rfl, fun _ => rfl,
      fun _ m => by cases m <;> rfl, fun _ => BitVec.or_self, fun _ _ => le_rfl, fun _ => .of_store_eq rfl rfl⟩

/-! ## CLEAR -/

theorem clearAll_obeys : Obeys { mode := true, flags := true, frames := true } s (clearAll s) := by
  refine Obeys.trans ?_ ((Modest.followLamp _).obeys _)
  exact ⟨rfl, fun _ => rfl, rfl, fun _ => rfl, fun _ => rfl, nofun, fun _ n => by cases n <;> rfl, nofun, fun _ _ => le_rfl, nofun⟩

theorem tagsInTurn_of_empty {s : State} (empty : s.queue.items = []) : TagsInTurn s := by
  intro k i found
  rw [empty] at found
  exact nomatch found

theorem clearAll_lawful : Lawful s (clearAll s) := by
  unfold clearAll
  refine Lawful.lit ?_
  refine ⟨⟨rfl, id, fun bounds => ?_, fun _ => tagsInTurn_of_empty rfl, fun _ n => ?_, fun sound => settingsSound_of_eq sound rfl rfl,
    ⟨s.queue.items.length, [], Nat.zero_le 1, by simp [List.drop_eq_nil_of_le]⟩, fun _ _ _ _ _ h => nomatch h⟩, fun sound => ?_⟩
  · refine ⟨Nat.zero_le _, bounds.speed, fun st => ?_, fun p => ?_, fun p => ?_, bounds.receiver, Nat.zero_le _, Nat.zero_le _,
      bounds.replies, bounds.goodRun⟩
    · simp [StationTriggers.clear]
    · simp [IngestUnit.cleared, Port.clear]
    · simp [IngestUnit.cleared, Port.clear, parserBound]
  · cases n <;> rfl
  · exact ⟨fun n => by cases n <;> [exact sound.good .a; exact sound.good .b], fun running => absurd rfl running, nofun,
      fun _ => rfl, fun _ => rfl⟩

/-! ## Every request -/

/-- Every answer is lawful and obeys the request's licence. -/
theorem ownerAnswer_lawful (r : LineRequest) : Lawful s (ownerAnswer r s).1 ∧ Obeys (requestLicence r) s (ownerAnswer r s).1 := by
  have modest {t : State} (h : Modest s t) (l : Licence) : Lawful s t ∧ Obeys l s t := ⟨h.lawful, h.obeys l⟩
  cases r with
  | readStatus => exact modest (.answerReadStatus s) _
  | readConfiguration => exact modest (.refl s) _
  | readPlan bank => exact modest (.answerReadPlan s bank) _
  | voidItem mode n => exact modest (Ordinary.answerVoidItem mode n s).modest _
  | forceDecision mode n action => exact modest (Ordinary.answerForceDecision mode n action s).modest _
  | readItem mode n => exact modest (Ordinary.answerItemView mode n s).modest _
  | keep target n tag => exact modest (Ordinary.answerKeep .k1 target n tag s).modest _
  | release target n tag =>
    have released := Loose.answerMark .k1 false target n tag s
    exact ⟨released.lawful, released.obeys nofun⟩
  | readEvents => exact modest (.refl s) _
  | setEvents marks => exact modest (.answerSetEvents s marks) _
  | setMode mode =>
    obtain same | ⟨m, same, empty, valid⟩ := answerSetMode_cases s mode
    · simp only [ownerAnswer, same]
      exact modest (.refl s) _
    · simp only [ownerAnswer, same]
      exact ⟨enterMode_lawful s empty valid, enterMode_obeys s m⟩
  | configure items =>
    obtain same | ⟨c, same, range⟩ := answerConfigure_cases s items
    · simp only [ownerAnswer, same]
      exact modest (.refl s) _
    · simp only [ownerAnswer, same]
      exact ⟨applySettings_lawful s range, applySettings_obeys s c⟩
  | writePlan p =>
    obtain same | ⟨n, settled, shadow, same⟩ := answerWritePlan_cases s p
    · simp only [ownerAnswer, same]
      exact modest (.refl s) _
    · simp only [ownerAnswer, same]
      exact ⟨replaceBank_lawful s _ settled shadow, updBank_obeys s n _⟩
  | commitPlan bank => exact ⟨answerCommitPlan_lawful s bank, answerCommitPlan_obeys s bank⟩
  | announceItem back =>
    obtain ⟨running, room, e, same⟩ | same := answerAnnounceItem_cases s back
    · simp only [ownerAnswer, same]
      exact ⟨withCreation_lawful s e running room, withCreation_obeys s e _⟩
    · exact modest same _
  | clearEvents marks =>
    exact ⟨.setPort s _ rfl rfl, .setPort _ s _ (fun _ => rfl) (fun _ => rfl) (fun _ => rfl) nofun fun _ _ => le_rfl⟩
  | setEventEnables e =>
    exact ⟨.setPort s _ rfl rfl, .setPort _ s _ (fun _ => rfl) nofun (fun _ => rfl) (fun _ => BitVec.or_self) fun _ _ => le_rfl⟩
  | readCounts after =>
    change Lawful s (answerReadCounts after s).1 ∧ Obeys { counts := true } s (answerReadCounts after s).1
    unfold answerReadCounts
    split
    · exact modest (.refl s) _
    · split
      · exact ⟨.setPort s _ rfl rfl, .setPort _ s _ (fun _ => rfl) (fun _ => rfl) (fun _ => rfl) (fun _ => BitVec.or_self) nofun⟩
      · exact modest (.refl s) _
  | clear => exact ⟨clearAll_lawful s, clearAll_obeys s⟩

/-! ## The port's exchange (R175 to R178) -/

theorem Modest.sendZeros (n : Nat) : Modest s (sendZeros n s) :=
  .setPort s { s.port with bus := .idle, spiOut := zeros n }

theorem Modest.holdAnswer (code : Byte) (a : State × Result × List Byte) : Modest a.1 (holdAnswer code a) :=
  .setPort a.1 { a.1.port with buffer := .busy (code :: a.2.1.code :: a.2.2) }

theorem Modest.refuseWrite : Modest s (refuseWrite s) :=
  .setPort s { s.port with refused := true }

theorem Modest.sendByte (b : Byte) (q : BusState) : Modest s (sendByte b q s) :=
  .setPort s { s.port with bus := q, spiOut := s.port.spiOut ++ [b] }

/-- A count of free values drawn is no one's concern. -/
theorem Modest.setFreeCtr (n : Nat) : Modest s { s with freeCtr := n } :=
  ⟨⟨rfl, rfl, rfl, rfl, rfl, rfl, rfl, .of_port_eq rfl rfl, .of_eq rfl fun _ => rfl, fun h => h.of_eq⟩, .of_store_eq rfl rfl⟩

theorem takeRequest_lawful (r : LineRequest) : Lawful s (takeRequest r s) ∧ Obeys (requestLicence r) s (takeRequest r s) := by
  have sent := Modest.sendZeros s r.transaction.length
  cases h : busy s with
  | true =>
    have refused := sent.trans (Modest.refuseWrite _)
    rw [takeRequest, if_pos h]
    exact ⟨refused.lawful, refused.obeys _⟩
  | false =>
    rw [takeRequest_of_free s r h, answerTaken]
    split
    · have answered := ownerAnswer_lawful (Machine.sendZeros r.transaction.length s) r
      have held := Modest.holdAnswer r.code (ownerAnswer r (Machine.sendZeros r.transaction.length s))
      exact ⟨(sent.lawful.after rfl answered.1).before held.lawful rfl, ((sent.obeys _).trans answered.2).trans (held.obeys _)⟩
    · have refused := sent.trans (Modest.holdAnswer r.code (Machine.sendZeros r.transaction.length s, .invalid, []))
      exact ⟨refused.lawful, refused.obeys _⟩

theorem Modest.readResponse (n : Nat) : Modest s (readResponse n s) :=
  (Modest.setPort s { s.port with
    bus := .idle, spiOut := (List.range n).map (sentByte s), refused := s.port.refused && decide (n < 2) }).trans
    (.setFreeCtr _ _)

theorem Modest.badWrite (code : Byte) : Modest s (badWrite code s) := by
  unfold Machine.badWrite
  split
  · exact .refuseWrite s
  · exact .holdAnswer code (s, .invalid, [])

/-- A whole transaction is a request of the nineteen taken, or modest. -/
theorem transaction_cases (bytes : List Byte) :
    (∃ r, transactionRequest bytes = some r ∧ transaction bytes s = takeRequest r s) ∨ Modest s (transaction bytes s) := by
  unfold transaction
  split
  · exact .inr (.sendZeros s 0)
  · split
    · exact .inr (.readResponse s 1)
    · exact .inr (.sendZeros s 1)
  · split
    · exact .inr (.readResponse s _)
    · split
      · exact .inl ⟨_, ‹_›, rfl⟩
      · exact .inr ((Modest.sendZeros s _).trans (.badWrite _ _))

theorem transaction_lawful (bytes : List Byte) : Lawful s (transaction bytes s) ∧ ∃ l, Obeys l s (transaction bytes s) := by
  obtain ⟨r, _, same⟩ | modest := transaction_cases s bytes
  · rw [same]
    exact ⟨(takeRequest_lawful s r).1, _, (takeRequest_lawful s r).2⟩
  · exact ⟨modest.lawful, {}, modest.obeys _⟩

theorem Modest.assertSelect : Modest s (assertSelect s) := by
  unfold Machine.assertSelect
  split
  · exact .setPort s { s.port with bus := .begun, spiOut := [] }
  all_goals exact .refl s

theorem Modest.sendBehindStatus (zeros : Bool) (rest : List Byte) : Modest s (sendBehindStatus zeros rest s) := by
  unfold Machine.sendBehindStatus
  split
  · exact .sendByte s _ _
  · split
    · exact .sendByte s _ _
    · exact (Modest.sendByte s _ _).trans (.setFreeCtr _ _)

theorem Modest.shiftByte (b : Byte) : Modest s (shiftByte b s) := by
  unfold Machine.shiftByte
  split
  · exact .refl s
  · exact .sendByte s _ _
  · exact .sendByte s _ _
  · exact (Modest.sendByte s _ _).trans (.setPort _ { (Machine.sendByte _ _ s).port with refused := false })
  · exact .sendBehindStatus s _ _

/-- The release of chip select ends a transaction of collected bytes, or is modest. -/
theorem releaseSelect_lawful : Lawful s (releaseSelect s) ∧ ∃ l, Obeys l s (releaseSelect s) := by
  have modest {t : State} (h : Modest s t) : Lawful s t ∧ ∃ l, Obeys l s t := ⟨h.lawful, {}, h.obeys _⟩
  have idle : Modest s { s with port.bus := .idle } := .setPort s { s.port with bus := .idle }
  unfold releaseSelect
  split
  · exact modest (.refl s)
  · exact modest idle
  · exact transaction_lawful s _
  · exact modest idle
  · exact modest idle

theorem Modest.placeResponse : Modest s (placeResponse s) := by
  unfold Machine.placeResponse
  split
  · exact .setPort s { s.port with buffer := .ready _ }
  all_goals exact .refl s

end Sys2Proof.Machine
end

section
/-! Every command of the LV8: it completes, it is lawful, and it writes within its licence. -/

namespace Sys2Proof.Machine

open Sys2Proof.Safety

variable (s : State)

/-! ## The link's changes of state (10.2) -/

theorem Modest.goodInAligning : Modest s (goodInAligning s) := by
  unfold Machine.goodInAligning
  split
  · refine Modest.trans ?_ (.followLamp _)
    refine Modest.trans ?_ (Ordinary.raise _ _).modest
    exact .setLink s { s.link with
      state := .up, goodRun := Config.goodBlocksToUp,
      lossTimer := some (after s.pos.time s.port.settings.lossTimeout) } id fun _ => le_rfl
  · rename_i early
    rw [Config.goodBlocksToUp] at early
    exact .setLink s { s.link with goodRun := s.link.goodRun + 1 } id fun _ => by simp only; omega

/-- A good block is modest where its owner is. -/
theorem Modest.goodBlock {owner : State → State} (h : ∀ t, Modest t (owner t)) : Modest s (goodBlock owner s) := by
  cases state : s.link.state with
  | aligning =>
    rw [goodBlock_aligning s owner state]
    exact (Modest.setLink s { s.link with receiver := .hunt } (fun _ => rfl) id).trans (.goodInAligning _)
  | up =>
    rw [goodBlock_up s owner state]
    exact (Ordinary.heard s).modest.trans (h _)

theorem OrdinaryAnswer.goodBlock {owner : State → State × Result × List Byte} (h : OrdinaryAnswer owner) (kind number : Byte) :
    Modest s (Machine.goodBlock (Machine.dispatch kind number owner) s) :=
  .goodBlock s fun t => (OrdinaryAnswer.dispatch h kind number t).modest

theorem Ordinary.unchanged (answer : State → Result × List Byte) : OrdinaryAnswer fun t => (t, answer t) :=
  fun t => .refl t

/-- A request that the office sends, other than a RELEASE. -/
theorem Modest.dispatchOffice (r : OfficeRequest) (keeps : ∀ n target frame tag, r ≠ .release n target frame tag) :
    Modest s (dispatchOffice r s) := by
  cases r with
  | idle n => exact .goodBlock s .refl
  | verdict n mode address action mask => exact (Ordinary.answerVerdict mode address action mask).goodBlock s _ n
  | keep n target frame tag => exact (Ordinary.answerKeep .k0 target frame tag).goodBlock s _ n
  | release n target frame tag => exact absurd rfl (keeps n target frame tag)
  | fetchRegion n frame tag x y w h factor => exact (Ordinary.answerFetchRegion n frame tag x y w h factor).goodBlock s _ n
  | queryItem n mode address => exact (Ordinary.answerItemView mode address).goodBlock s _ n
  | queryStatus n => exact (Ordinary.unchanged fun t => (.ok, queryStatusBody t)).goodBlock s _ n
  | unknown kind n => exact (Ordinary.unchanged fun _ => (.invalid, [])).goodBlock s kind n

theorem Loose.officeRelease (n target : Byte) (frame tag : Word16) : Loose s (officeRelease n target frame tag s) := by
  cases state : s.link.state with
  | aligning =>
    rw [Machine.officeRelease, goodBlock_aligning s _ state]
    exact ((Modest.setLink s { s.link with receiver := .hunt } (fun _ => rfl) id).trans (.goodInAligning _)).toLoose
  | up =>
    rw [Machine.officeRelease, goodBlock_up s _ state, dispatch_eq]
    exact (Ordinary.heard s).modest.toLoose.trans
      ((Loose.answerMark .k0 false target frame tag _).trans (Ordinary.offerReply _ _).modest.toLoose)

theorem Loose.dispatchOffice (r : OfficeRequest) : Loose s (dispatchOffice r s) := by
  cases r with
  | release n target frame tag => exact .officeRelease s n target frame tag
  | _ =>
    refine (Modest.dispatchOffice s _ ?_).toLoose
    exact nofun

theorem Loose.downlinkByte (b : Byte) : Loose s (downlinkByte b s) := by
  unfold Machine.downlinkByte
  split
  · exact (Modest.refl s).toLoose
  · split_ifs with short checks
    · refine (Modest.setLink s { s.link with receiver := .collect (_ ++ [b]) } (fun _ => ?_) id).toLoose
      rw [Config.blockLength] at short
      simpa [receiverBound] using short
    · exact .dispatchOffice s _
    · exact (Ordinary.badBlock s .hunt rfl).modest.toLoose

theorem Modest.linkDown : Modest s (linkDown s) := by
  unfold Machine.linkDown
  refine Modest.trans ?_ (.followLamp _)
  refine Modest.trans ?_ (Ordinary.raise _ _).modest
  refine (Ordinary.closeAllReported s).modest.trans ?_
  refine (Ordinary.setUplink _ { (Machine.closeAllReported s).uplink with
    deadline := none, region := none, background := none, clearAborts := [], regions := [], replies := [] }
    (Nat.zero_le _) le_rfl (Nat.zero_le _)).modest.trans ?_
  exact .setLink _ { (Machine.closeAllReported s).link with state := .aligning, goodRun := 0, lossTimer := none } id
    fun _ => Nat.zero_le 4

theorem Modest.setLamp (l : Lamp) : Modest s { s with gates.lamp := l } :=
  ⟨⟨rfl, rfl, rfl, rfl, rfl, rfl, rfl, .of_port_eq rfl rfl, .of_eq rfl fun _ => rfl, fun h => h.of_eq⟩, .of_store_eq rfl rfl⟩

/-! ## The Position Unit (chapter 2) -/

/-- A step of the encoder leaves a residue in range (R24). -/
theorem prescale_bounds {p : Nat} {residue : Int} {d : Direction} (positive : 0 < p) (low : -(p : Int) < residue)
    (high : residue < p) : -(p : Int) < (prescale p residue d).1 ∧ (prescale p residue d).1 < p := by
  unfold prescale
  have step : d.sign = 1 ∨ d.sign = -1 := by cases d <;> simp [Direction.sign]
  split
  · exact ⟨by simpa using positive, by simpa using positive⟩
  · split
    · exact ⟨by simpa using positive, by simpa using positive⟩
    · constructor <;> dsimp only <;> omega

theorem prescaler_pos {s : State} (sound : SettingsSound s) : 0 < s.port.settings.prescaler := by
  have := sound.inRange.1
  simp only [List.mem_cons, List.not_mem_nil, or_false] at this
  omega

/-- What an ENCODER_STEP moves in the Position Unit; what its count leads to is ordinary (R22 to R24, R26). -/
theorem encoderStep_cases (a b : Bool) (o : WatchOrder) : ∃ p t, exec (.encoderStep a b o) s = .next t
    ∧ Ordinary { s with pos := p } t ∧ p.speed = s.pos.speed ∧ p.time = s.pos.time
    ∧ (SettingsSound s → SettingsSound { s with pos := p }) := by
  cases step : decodeStep s.port.settings.polarity s.pos.heldA s.pos.heldB a b with
  | none =>
    refine ⟨{ s.pos with heldA := a, heldB := b }, _, rfl, ?_, rfl, rfl, fun sound => settingsSound_of_eq sound rfl rfl⟩
    simp only [step]
    exact .refl _
  | some d =>
    have sound (sound : SettingsSound s) := prescale_bounds (d := d) (prescaler_pos sound) sound.residueLow sound.residueHigh
    cases counted : (prescale s.port.settings.prescaler s.pos.residue d).2 with
    | none =>
      refine ⟨{ s.pos with heldA := a, heldB := b, residue := (prescale s.port.settings.prescaler s.pos.residue d).1 }, _,
        rfl, ?_, rfl, rfl, fun h => ⟨h.inRange, (sound h).1, (sound h).2⟩⟩
      simp only [step, feedPrescaler, counted]
      exact .refl _
    | some c =>
      refine ⟨{ s.pos with
        heldA := a, heldB := b, residue := (prescale s.port.settings.prescaler s.pos.residue d).1
        position := s.pos.position + BitVec.ofInt 32 c.sign, direction := c, windowAcc := s.pos.windowAcc + c.sign }, _,
        rfl, ?_, rfl, rfl, fun h => ⟨h.inRange, (sound h).1, (sound h).2⟩⟩
      simp only [step, feedPrescaler, counted]
      exact .foldl (fun t w => .watch t w) _ _

theorem nextSpeed_le {speed sample : Nat} (h : speed ≤ 65535) (k : sample ≤ 65535) : nextSpeed speed sample ≤ 65535 := by
  unfold nextSpeed
  omega

theorem windowSample_le (acc : Int) : windowSample acc ≤ 65535 := by
  unfold windowSample
  split_ifs <;> omega

/-! ## The reset pin (R187) -/

theorem settingsInRange_reset : SettingsInRange State.reset.port.settings := by
  simp [SettingsInRange, State.reset, Settings.reset]

theorem roomy_reset : Roomy State.reset :=
  ⟨by decide, by decide, by decide, rfl, Nat.zero_le _, Nat.zero_le _, Nat.zero_le _, Nat.zero_le _⟩

theorem plansSound_reset : PlansSound State.reset :=
  ⟨fun n => by cases n <;> nofun, fun running => absurd rfl running, nofun, fun _ => rfl, fun _ => rfl⟩

theorem afterReset_lawful (pins : Pins) : Lawful s (afterReset pins s) where
  pending := rfl
  memory := id
  bounds _ := withinBounds_iff.mpr ⟨Nat.zero_le _, Nat.zero_le _,
    roomy_reset.of_eq (by rfl) (by rfl) (by rfl) (by rfl) (by rfl) (by rfl) (by rfl)⟩
  tags _ := tagsInTurn_of_empty rfl
  inUse _ n := by cases n <;> rfl
  settings _ := ⟨settingsInRange_reset, neg_one_lt_zero, zero_lt_one⟩
  runs := ⟨s.queue.items.length, [], Nat.zero_le 1, by simp [afterReset, State.reset, List.drop_eq_nil_of_le]⟩
  decided _ _ _ _ _ found := nomatch found
  plans _ := ⟨fun n => by cases n <;> [exact plansSound_reset.good .a; exact plansSound_reset.good .b],
    fun running => absurd rfl running, nofun, fun _ => rfl, fun _ => rfl⟩

/-! ## Every command -/

/-- What a command may write; none for those that may take or undo anything. -/
def commandLicence : Instr → Option Licence
  | .resetPin _ => none
  | .writeRequest .release => none
  | .setMode mode => some (requestLicence (.setMode mode))
  | .configure items => some (requestLicence (.configure items))
  | .writePlan plan => some (requestLicence (.writePlan plan))
  | .clearEvents marks => some (requestLicence (.clearEvents marks))
  | .setEventEnables e => some (requestLicence (.setEventEnables e))
  | .readCounts c => some (requestLicence (.readCounts c))
  | .clear => some (requestLicence .clear)
  | .release _ target number tag => some (requestLicence (.release target number tag))
  | .badBlock (.dataByte _) => some { frames := true }
  | _ => some {}

/-- What a command may make of the Position Unit, the residue at a CONFIGURE apart (R36). -/
def PositionWritten (c : Instr) (s : State) (p : PositionUnit) : Prop :=
  match c with
  | .encoderStep _ _ _ => p.speed = s.pos.speed ∧ p.time = s.pos.time
  | .speedWindowEnd => p.position = s.pos.position ∧ p.direction = s.pos.direction ∧ p.time = s.pos.time
  | .sensorRisingEdge => p.position = s.pos.position ∧ p.direction = s.pos.direction ∧ p.time = s.pos.time
  | .infeedSensorFallingEdge => p.position = s.pos.position ∧ p.direction = s.pos.direction ∧ p.time = s.pos.time
  | .haltInputRisingEdge => p.position = s.pos.position ∧ p.direction = s.pos.direction ∧ p.time = s.pos.time
  | .haltInputFallingEdge => p.position = s.pos.position ∧ p.direction = s.pos.direction ∧ p.time = s.pos.time
  | _ => p = s.pos

theorem positionWritten_self (c : Instr) : PositionWritten c s s.pos := by
  unfold PositionWritten
  split <;> simp

/-- What a command does to a state: lawful, the memory kept but by GRANT_END, and all it writes within its licence. -/
structure Effect (c : Instr) (s t : State) : Prop where
  lawful : Lawful s t
  mem : c ≠ .grantEnd → t.store.mem = s.store.mem
  writes : c.wellFormed = true → ∀ l, commandLicence c = some l →
    ∃ p m, PositionWritten c s p ∧ Obeys l { s with pos := p, store.mem := m } t

variable {s}

theorem Loose.effect {t : State} (h : Loose s t) {c : Instr} (licence : commandLicence c = some { frames := true }) :
    Effect c s t := by
  refine ⟨h.lawful, fun _ => h.mem, fun _ l granted => ⟨s.pos, s.store.mem, positionWritten_self s c, h.obeys ?_⟩⟩
  obtain rfl := Option.some.inj (licence.symm.trans granted)
  exact nofun

theorem Modest.effect {t : State} (h : Modest s t) (c : Instr) : Effect c s t :=
  ⟨h.lawful, fun _ => h.mem, fun _ l _ => ⟨s.pos, s.store.mem, positionWritten_self s c, h.obeys l⟩⟩

theorem Ordinary.effect {t : State} (h : Ordinary s t) (c : Instr) : Effect c s t :=
  h.modest.effect c

/-- A request that has a row of its own. -/
theorem takeRequest_effect {c : Instr} (r : LineRequest) (licence : commandLicence c = some (requestLicence r)) :
    Effect c s (takeRequest r s) where
  lawful := (takeRequest_lawful s r).1
  mem _ := (takeRequest_lawful s r).2.mem
  writes _ l granted := by
    obtain rfl : requestLicence r = l := Option.some.inj (licence.symm.trans granted)
    exact ⟨s.pos, s.store.mem, positionWritten_self s c, (takeRequest_lawful s r).2⟩

/-- A modest change after the Position Unit has moved. -/
theorem Modest.effect_of_moved {t : State} {p : PositionUnit} (h : Modest { s with pos := p } t) (c : Instr)
    (written : PositionWritten c s p) (speed : s.pos.speed ≤ 65535 → p.speed ≤ 65535)
    (residue : SettingsSound s → SettingsSound { s with pos := p }) : Effect c s t :=
  ⟨h.lawful.of_moved speed residue, fun _ => h.mem, fun _ l _ => ⟨p, s.store.mem, written, h.obeys l⟩⟩

theorem grantEnd_effect : ∃ t, exec .grantEnd s = .next t ∧ Effect .grantEnd s t := by
  refine ⟨_, rfl, ?_⟩
  split
  · rename_i p _
    obtain ⟨m, same, canonical, ordinary⟩ := finishGrant_ordinary { s with ingest.grant := none } p
    have written : Ordinary { s with store.mem := m } (finishGrant p { s with ingest.grant := none }) :=
      (Ordinary.setGrant { s with store.mem := m } none).trans ordinary
    have lawful := written.lawful
    refine ⟨⟨⟨lawful.pending, fun h => ?_, fun bounds => lawful.bounds ?_, lawful.tags, lawful.inUse,
      fun sound => lawful.settings (settingsSound_of_eq sound rfl rfl), lawful.runs, lawful.decided⟩,
      fun sound => lawful.plans ⟨sound.good, sound.active, sound.pending, sound.haltEmpty, sound.haltSettled⟩⟩,
      fun other => absurd rfl other, fun _ l _ => ⟨s.pos, m, rfl, written.modest.obeys l⟩⟩
    · rw [MemoryCanonical, same]
      exact canonical h
    · obtain ⟨items, quick, roomy⟩ := withinBounds_iff.mp bounds
      exact withinBounds_iff.mpr ⟨items, quick, roomy.of_eq⟩
  · exact (Modest.refl s).effect _

theorem sensorRisingEdge_effect : ∃ t, exec .sensorRisingEdge s = .next t ∧ Effect .sensorRisingEdge s t := by
  have written : PositionWritten .sensorRisingEdge s { s.pos with sensor := true } := ⟨rfl, rfl, rfl⟩
  refine ⟨_, rfl, ?_⟩
  split_ifs with high captured
  · exact (Modest.refl s).effect _
  · obtain ⟨room, same⟩ | ordinary := offerEntry_cases { s with pos.sensor := true } s.pos.position
    · have running : s.port.mode ≠ .halt := by
        simp only [captures, Bool.and_eq_true, bne_iff_ne] at captured
        exact captured.1.2
      rw [same]
      have created := withCreation_lawful { s with pos.sensor := true } s.pos.position running room
      exact ⟨created.of_moved id fun sound => settingsSound_of_eq sound rfl rfl, fun _ => rfl,
        fun _ l _ => ⟨_, s.store.mem, written, withCreation_obeys _ _ l⟩⟩
    · exact ordinary.modest.effect_of_moved _ written id fun sound => settingsSound_of_eq sound rfl rfl
  · exact (Modest.refl _).effect_of_moved (p := { s.pos with sensor := true }) _ written id
      fun sound => settingsSound_of_eq sound rfl rfl

theorem writeRequest_effect (a : BusArrival) : ∃ t, exec (.writeRequest a) s = .next t ∧ Effect (.writeRequest a) s t := by
  refine ⟨_, rfl, ?_⟩
  cases a with
  | chipSelect => exact (Modest.assertSelect s).effect _
  | busByte b => exact (Modest.shiftByte s b).effect _
  | release =>
    obtain ⟨lawful, l, obeys⟩ := releaseSelect_lawful s
    exact ⟨lawful, fun _ => obeys.mem, nofun⟩
  | transaction bytes =>
    obtain ⟨lawful, l, obeys⟩ := transaction_lawful s bytes
    refine ⟨lawful, fun _ => obeys.mem, fun wellFormed m granted => ?_⟩
    obtain ⟨r, request, _⟩ | modest := transaction_cases s bytes
    · simp [Instr.wellFormed, writeHasNoRow, request] at wellFormed
    · exact (modest.effect _).writes wellFormed m granted

variable (s)

/-- Every command completes, and has its effect. -/
theorem exec_effect (c : Instr) : ∃ t, exec c s = .next t ∧ Effect c s t := by
  have begun (t : State) : Modest s (beginBlock s) := (Ordinary.beginBlock s).modest
  cases c with
  | resetPin pins => exact ⟨_, rfl, afterReset_lawful s pins, fun _ => rfl, nofun⟩
  | encoderStep a b o =>
    obtain ⟨p, t, done, ordinary, speed, time, residue⟩ := encoderStep_cases s a b o
    exact ⟨t, done, ordinary.modest.effect_of_moved _ ⟨speed, time⟩ (speed ▸ id) residue⟩
  | speedWindowEnd =>
    refine ⟨_, rfl, ?_⟩
    split
    · exact (Modest.refl _).effect_of_moved _ ⟨rfl, rfl, rfl⟩ (fun h => nextSpeed_le h (windowSample_le _))
        fun sound => settingsSound_of_eq sound rfl rfl
    · exact (Modest.refl s).effect _
  | sensorRisingEdge => exact sensorRisingEdge_effect
  | infeedSensorFallingEdge =>
    exact ⟨_, rfl, (Modest.refl _).effect_of_moved (p := { s.pos with sensor := false }) _ ⟨rfl, rfl, rfl⟩ id
      fun sound => settingsSound_of_eq sound rfl rfl⟩
  | haltInputRisingEdge =>
    refine ⟨_, rfl, ?_⟩
    split
    · exact (Modest.refl s).effect _
    · exact ((Ordinary.raise _ _).trans (.gatesAtHalt _)).modest.effect_of_moved (p := { s.pos with halt := true }) _
        ⟨rfl, rfl, rfl⟩ id fun sound => settingsSound_of_eq sound rfl rfl
  | haltInputFallingEdge =>
    exact ⟨_, rfl, (Modest.refl _).effect_of_moved (p := { s.pos with halt := false }) _ ⟨rfl, rfl, rfl⟩ id
      fun sound => settingsSound_of_eq sound rfl rfl⟩
  | triggerExaminationAtCreation tag => exact ⟨_, rfl, (Ordinary.examineTriggers s tag).effect _⟩
  | decisionExaminationAtCreation tag => exact ⟨_, rfl, (Ordinary.examineDecision s tag).effect _⟩
  | trainEnd st =>
    refine ⟨_, rfl, ?_⟩
    split
    · exact ((Ordinary.recordTrainEnd s st _).trans (.nextTrain _ st)).effect _
    · exact (Modest.refl s).effect _
  | cameraTimeoutExpiry st =>
    refine ⟨_, rfl, ?_⟩
    split
    · exact (Ordinary.expireTimeout s st _).effect _
    · exact (Modest.refl s).effect _
  | gateExaminationAfterPlacing tag =>
    refine ⟨_, rfl, ?_⟩
    split
    · exact ((Ordinary.examinePlaced s .reject _).trans (.examineHead _)).effect _
    · split
      · exact ((Ordinary.examinePlaced s .rework _).trans (.examineHead _)).effect _
      · exact (Modest.refl s).effect _
  | recoveryExpiry g =>
    refine ⟨_, rfl, ?_⟩
    split
    · exact ((Ordinary.leaveRecovery s g).trans (.examineHead _)).effect _
    · exact (Modest.refl s).effect _
  | lampBlinkToggle =>
    refine ⟨_, rfl, ?_⟩
    split
    · exact (Modest.setLamp s _).effect _
    · exact (Modest.refl s).effect _
  | frameHeader p h =>
    refine ⟨_, rfl, ?_⟩
    cases h with
    | pattern => exact (Ordinary.syncPattern s p).effect _
    | complete word w h depth => exact ((Ordinary.beginHeader s p).trans (.headerArrived _ p word _ _ _)).effect _
    | cutBySync => exact ((Ordinary.beginHeader s p).trans (.syncPattern _ p)).effect _
    | cutByEnd => exact ((Ordinary.beginHeader s p).trans (.endPattern _ p)).effect _
  | pixelByte p b =>
    refine ⟨_, rfl, ?_⟩
    split
    · exact (Ordinary.pixelReceived s _ p b).effect _
    · exact (Ordinary.headerByte s p _).effect _
    · exact (Ordinary.trailerByte s _ p _).effect _
    · exact (Modest.refl s).effect _
    · exact (Modest.refl s).effect _
  | frameTrailer p rows crc => exact ⟨_, rfl, ((Ordinary.beginTrailer s p).trans (.takeTrailer _ p rows crc)).effect _⟩
  | frameEndedWithoutTrailer p cut =>
    refine ⟨_, rfl, ?_⟩
    cases cut with
    | pixelsByEnd => exact (Ordinary.endPattern s p).effect _
    | pixelsBySync => exact (Ordinary.syncPattern s p).effect _
    | trailerBySync => exact ((Ordinary.reachTrailer s p).trans (.syncPattern _ p)).effect _
    | trailerByEnd => exact ((Ordinary.reachTrailer s p).trans (.endPattern _ p)).effect _
  | writeGrant =>
    refine ⟨_, rfl, ?_⟩
    split
    · exact (Ordinary.grantPort s _).effect _
    · exact (Modest.refl s).effect _
    · exact (Modest.refl s).effect _
  | grantEnd => exact grantEnd_effect
  | segmentBoundary => exact ⟨_, rfl, ((Ordinary.endSegment s).trans (.chooseSegment _)).effect _⟩
  | badBlock a =>
    refine ⟨_, rfl, ?_⟩
    cases a with
    | checkFails => exact ((Ordinary.beginBlock s).trans (.badBlock _ .hunt rfl)).effect _
    | cutShort => exact ((Ordinary.beginBlock s).trans (.blockStart _)).effect _
    | blockStart => exact (Ordinary.blockStart s).effect _
    | dataByte b => exact (Loose.downlinkByte s b).effect rfl
  | idleBlock n => exact ⟨_, rfl, ((Ordinary.beginBlock s).modest.trans (.dispatchOffice _ (.idle n) nofun)).effect _⟩
  | verdict n mode address action mask =>
    exact ⟨_, rfl, ((Ordinary.beginBlock s).modest.trans (.dispatchOffice _ (.verdict n mode address action mask) nofun)).effect _⟩
  | keep master target n tag =>
    cases master with
    | office m =>
      exact ⟨_, rfl, ((Ordinary.beginBlock s).modest.trans (.dispatchOffice _ (.keep m target n tag) nofun)).effect _⟩
    | lineController => exact ⟨_, rfl, takeRequest_effect (.keep target n tag) rfl⟩
  | release master target n tag =>
    cases master with
    | office m =>
      exact ⟨_, rfl, ((Ordinary.beginBlock s).modest.toLoose.trans (.officeRelease _ m target n tag)).effect rfl⟩
    | lineController => exact ⟨_, rfl, takeRequest_effect (.release target n tag) rfl⟩
  | fetchRegion n frame tag x y w h factor =>
    exact ⟨_, rfl, ((Ordinary.beginBlock s).modest.trans (.dispatchOffice _ (.fetchRegion n frame tag x y w h factor) nofun)).effect _⟩
  | queryItem n mode address =>
    exact ⟨_, rfl, ((Ordinary.beginBlock s).modest.trans (.dispatchOffice _ (.queryItem n mode address) nofun)).effect _⟩
  | queryStatus n => exact ⟨_, rfl, ((Ordinary.beginBlock s).modest.trans (.dispatchOffice _ (.queryStatus n) nofun)).effect _⟩
  | unknownRequestKind kind n =>
    exact ⟨_, rfl, ((Ordinary.beginBlock s).modest.trans (.dispatchOffice _ (.unknown kind n) nofun)).effect _⟩
  | lossTimerExpiry =>
    refine ⟨_, rfl, ?_⟩
    split
    · exact (Modest.linkDown s).effect _
    · exact (Modest.refl s).effect _
  | readResponse n => exact ⟨_, rfl, (Modest.readResponse s n).effect _⟩
  | writeRequest a => exact writeRequest_effect a
  | responsePlaced => exact ⟨_, rfl, (Modest.placeResponse s).effect _⟩
  | readStatus => exact ⟨_, rfl, takeRequest_effect .readStatus rfl⟩
  | setMode mode => exact ⟨_, rfl, takeRequest_effect (.setMode mode) rfl⟩
  | configure items => exact ⟨_, rfl, takeRequest_effect (.configure items) rfl⟩
  | readConfiguration => exact ⟨_, rfl, takeRequest_effect .readConfiguration rfl⟩
  | writePlan plan => exact ⟨_, rfl, takeRequest_effect (.writePlan plan) rfl⟩
  | commitPlan bank => exact ⟨_, rfl, takeRequest_effect (.commitPlan bank) rfl⟩
  | readPlan bank => exact ⟨_, rfl, takeRequest_effect (.readPlan bank) rfl⟩
  | announceItem back => exact ⟨_, rfl, takeRequest_effect (.announceItem back) rfl⟩
  | voidItem mode n => exact ⟨_, rfl, takeRequest_effect (.voidItem mode n) rfl⟩
  | forceDecision mode n action => exact ⟨_, rfl, takeRequest_effect (.forceDecision mode n action) rfl⟩
  | readItem mode n => exact ⟨_, rfl, takeRequest_effect (.readItem mode n) rfl⟩
  | readEvents => exact ⟨_, rfl, takeRequest_effect .readEvents rfl⟩
  | clearEvents marks => exact ⟨_, rfl, takeRequest_effect (.clearEvents marks) rfl⟩
  | setEvents marks => exact ⟨_, rfl, takeRequest_effect (.setEvents marks) rfl⟩
  | setEventEnables e => exact ⟨_, rfl, takeRequest_effect (.setEventEnables e) rfl⟩
  | readCounts after => exact ⟨_, rfl, takeRequest_effect (.readCounts after) rfl⟩
  | clear => exact ⟨_, rfl, takeRequest_effect .clear rfl⟩

variable {s}

theorem effect_of_exec {c : Instr} {t : State} (done : exec c s = .next t) : Effect c s t := by
  obtain ⟨u, next, effect⟩ := exec_effect s c
  rw [done] at next
  cases next
  exact effect

end Sys2Proof.Machine
end

section
/-! What every step keeps, and the obligations that are said of every command. -/

namespace Sys2Proof.Machine

open Sys2Proof.Safety

/-- A property that no passing of time and no change of the waiting commands touches is kept by every step where every command
keeps it. -/
theorem stepKeeps_of_exec {P : State → Prop} (idle : ∀ s time l, P s → P { s with pos.time := time, pending := l })
    (exec : ∀ c s t, exec c s = .next t → P s → P t) : StepKeeps P := by
  intro s t holds done
  unfold step at done
  split at done
  · exact exec _ _ _ done (idle s s.pos.time _ holds)
  · cases done
    exact idle s _ _ holds

theorem stepKeeps_of_lawful {P : State → Prop} (idle : ∀ s time l, P s → P { s with pos.time := time, pending := l })
    (lawful : ∀ s t, Lawful s t → P s → P t) : StepKeeps P :=
  stepKeeps_of_exec idle fun _ s t done => lawful s t (effect_of_exec done).lawful

theorem stepKeeps_withinBounds : StepKeeps WithinBounds :=
  stepKeeps_of_lawful (fun _ _ _ h => ⟨h.items, h.speed, h.triggers, h.fifos, h.parsers, h.receiver, h.regions, h.reports,
    h.replies, h.goodRun⟩) fun _ _ lawful => lawful.bounds

/-! ## The two in-use counts -/

/-- Every record names one of the two banks. -/
theorem countP_banks (l : List Item) : (l.countP fun i => i.bank == .a) + (l.countP fun i => i.bank == .b) = l.length := by
  induction l with
  | nil => rfl
  | cons i l ih =>
    rw [List.countP_cons, List.countP_cons, List.length_cons]
    cases i.bank <;> simp <;> omega

/-! ## The timed commands (log 1) -/

theorem timeReached_iff {point : Word32} {s : State} : timeReached point s = true ↔ reached s.pos.time point :=
  decide_eq_true_iff

theorem positionReached_iff {point : Word32} {s : State} : positionReached point s = true ↔ reached s.pos.position point :=
  decide_eq_true_iff

/-- The entries of a station's timeout list that have expired are its leading ones: there is one exactly where the head has. -/
theorem expiredTimeouts_ne_nil_iff {st : Station} {s : State} :
    expiredTimeouts st s ≠ [] ↔ ∃ e, s.trig[st].timeouts.head? = some e ∧ reached s.pos.time e.expiry := by
  unfold expiredTimeouts
  cases s.trig[st].timeouts with
  | nil => simp
  | cons e rest => simp [List.takeWhile_cons, ← timeReached_iff]

theorem isSome_trainDue_iff {st : Station} {s : State} :
    (trainDue st s).isSome = true ↔
      ∃ tr, s.trig[st].slot = some tr ∧ reached s.pos.time (tr.start + BitVec.ofNat 32 (26 * tr.period)) := by
  unfold trainDue
  cases s.trig[st].slot with
  | none => simp
  | some tr =>
    simp only [Train.endTime, after, Config.trainPeriods, ← timeReached_iff, Option.some.injEq, exists_eq_left']
    exact Option.isSome_ite

theorem recoveryDue_iff {g : Gate} {s : State} :
    recoveryDue g s = true ↔ ∃ x, (gateOf g s).output = .recovery x ∧ reached s.pos.time x := by
  unfold recoveryDue
  cases (gateOf g s).output <;> simp [timeReached_iff]

theorem blinkDue_iff {s : State} : blinkDue s = true ↔
    (s.gates.lamp.state = .slow ∨ s.gates.lamp.state = .fast) ∧ reached s.pos.time s.gates.lamp.toggleAt := by
  unfold blinkDue
  cases s.gates.lamp.state <;> simp [timeReached_iff]

theorem lossTimerDue_iff {s : State} :
    lossTimerDue s = true ↔ s.link.state = .up ∧ ∃ x, s.link.lossTimer = some x ∧ reached s.pos.time x := by
  unfold lossTimerDue
  cases s.link.state <;> cases s.link.lossTimer <;> simp [timeReached_iff]

/-- What joins the queue at a microsecond: of each kind of timed command those that are due. -/
theorem mem_dueCommands {c : Instr} {s : State} : c ∈ dueCommands s ↔
    (timeReached s.pos.windowEnd s = true ∧ c = .speedWindowEnd) ∨ (∃ st, (trainDue st s).isSome = true ∧ c = .trainEnd st)
      ∨ (∃ st, expiredTimeouts st s ≠ [] ∧ c = .cameraTimeoutExpiry st) ∨ (∃ g, recoveryDue g s = true ∧ c = .recoveryExpiry g)
      ∨ (blinkDue s = true ∧ c = .lampBlinkToggle) ∨ (lossTimerDue s = true ∧ c = .lossTimerExpiry) := by
  have gates (g : Gate) : g ∈ [Gate.reject, Gate.rework] := by cases g <;> simp
  have stations (st : Station) : st ∈ allStations := by simp [allStations_eq_finRange]
  have one (b : Bool) (d : Instr) : c ∈ (if b then [d] else []) ↔ b = true ∧ c = d := by cases b <;> simp
  unfold dueCommands
  simp only [List.mem_append, one, List.mem_map, List.mem_filter, List.mem_flatMap, gates, stations, true_and, or_assoc,
    eq_comm (b := c), ne_eq, List.eq_nil_iff_forall_not_mem, not_forall, not_not, exists_and_right]

end Sys2Proof.Machine

open Sys2Proof Sys2Proof.Machine Sys2Proof.Safety

/-- Settles O1: it is how the step is defined. -/
theorem stepTakesTheFrontCommand : Obligations.StepTakesTheFrontCommand :=
  fun _ _ _ => rfl

/-- Settles O2, kind by kind of the timed commands. -/
theorem idleStepIsOneMicrosecond : Obligations.IdleStepIsOneMicrosecond := by
  intro s idle
  refine ⟨tick s, by rw [step, idle], rfl, ?_⟩
  simp only [tick, mem_dueCommands, timeReached_iff, isSome_trainDue_iff, expiredTimeouts_ne_nil_iff, recoveryDue_iff,
    blinkDue_iff, lossTimerDue_iff]
  refine ⟨by simp [advanceTime], fun st => by simp [advanceTime], fun st => by simp [advanceTime],
    fun g => by cases g <;> simp [advanceTime, gateOf], by simp [advanceTime], by simp [advanceTime], ?_⟩
  rintro c (⟨_, rfl⟩ | ⟨st, _, rfl⟩ | ⟨st, _, rfl⟩ | ⟨g, _, rfl⟩ | ⟨_, rfl⟩ | ⟨_, rfl⟩) <;> simp

/-- Settles O3: what every command does says so. -/
theorem everyCommandCompletesAndLeavesTheQueue : Obligations.EveryCommandCompletesAndLeavesTheQueue := by
  intro c s
  obtain ⟨t, done, effect⟩ := exec_effect s c
  exact ⟨t, done, effect.lawful.pending⟩

/-- Settles O8: GRANT_END alone writes, and its writes keep the form. -/
theorem everyStepKeepsTheMemoryCanonical : Obligations.EveryStepKeepsTheMemoryCanonical :=
  stepKeeps_of_lawful (fun _ _ _ h => h) fun _ _ lawful => lawful.memory

/-- Settles O10: records leave at the head, and a creation takes the next tag and one place in its bank's count. -/
theorem everyStepKeepsTheQueueCounted : Obligations.EveryStepKeepsTheQueueCounted := by
  refine ⟨⟨stepKeeps_of_lawful (fun _ _ _ h => h) fun _ _ lawful => lawful.tags, fun s => tags_nodup_of_inTurn⟩,
    stepKeeps_of_lawful (fun _ _ _ h => h) fun _ _ lawful => lawful.inUse, fun s counted => ?_⟩
  have a := counted .a
  have b := counted .b
  simp only [bankOf] at a b
  rw [a, b, countP_banks]

/-- Settles O11: the requests of chapters 3 and 11 check what they write. -/
theorem everyStepKeepsTheConfigurationSound : Obligations.EveryStepKeepsTheConfigurationSound :=
  ⟨stepKeeps_of_lawful (fun _ _ _ h => ⟨h.good, h.active, h.pending, h.haltEmpty, h.haltSettled⟩) fun _ _ lawful => lawful.plans,
    stepKeeps_of_lawful (fun _ _ _ h => settingsSound_of_eq h rfl rfl) fun _ _ lawful => lawful.settings⟩

/-- Settles O5: a command writes within its licence, and no other licence lets flags or counts go. -/
theorem flagsStickAndCountsGrow : Obligations.FlagsStickAndCountsGrow := by
  intro c s t wellFormed done
  have writes := (effect_of_exec done).writes wellFormed
  have sticks {l : Licence} (granted : commandLicence c = some l) (no : l.flags = false) :
      s.port.flags ||| t.port.flags = t.port.flags := by
    obtain ⟨p, m, _, obeys⟩ := writes l granted
    exact obeys.flags no
  have grows {l : Licence} (granted : commandLicence c = some l) (no : l.counts = false) :
      ∀ k : Fin 14, s.port.counts[k].toNat ≤ t.port.counts[k].toNat := by
    obtain ⟨p, m, _, obeys⟩ := writes l granted
    exact obeys.counts no
  constructor
  · cases c with
    | clearEvents _ | clear | resetPin _ => trivial
    | writeRequest a =>
      cases a with
      | release => trivial
      | _ => exact sticks rfl rfl
    | badBlock a => cases a <;> exact sticks rfl rfl
    | _ => exact sticks rfl rfl
  · cases c with
    | readCounts _ | resetPin _ => trivial
    | writeRequest a =>
      cases a with
      | release => trivial
      | _ => exact grows rfl rfl
    | badBlock a => cases a <;> exact grows rfl rfl
    | _ => exact grows rfl rfl

/-- Settles O4: a command writes within its licence, and the Position Unit's own commands as their rules say. -/
theorem eachUnitHasItsWriters : Obligations.EachUnitHasItsWriters := by
  refine ⟨fun c s t wellFormed done => ?position, fun c s t a other done => ?memory, fun c s t wellFormed done => ?port⟩
  case memory => rw [(effect_of_exec done).mem other]
  case position =>
    have writes := (effect_of_exec done).writes wellFormed
    have kept (plain : ∀ p, PositionWritten c s p → p = s.pos) {l : Licence} (granted : commandLicence c = some l) :
        t.pos = { s.pos with residue := t.pos.residue } ∧ (l.residue = false → t.pos = s.pos) := by
      obtain ⟨p, m, written, obeys⟩ := writes l granted
      obtain rfl := plain p written
      exact ⟨obeys.pos, obeys.pos_eq⟩
    have counted (granted : commandLicence c = some {}) : ∃ p, PositionWritten c s p ∧ t.pos = p := by
      obtain ⟨p, m, written, obeys⟩ := writes {} granted
      exact ⟨p, written, obeys.pos_eq rfl⟩
    cases c with
    | resetPin _ => exact ⟨trivial, trivial⟩
    | encoderStep a b o =>
      obtain ⟨p, written, rfl⟩ := counted rfl
      exact ⟨trivial, written⟩
    | speedWindowEnd | sensorRisingEdge | infeedSensorFallingEdge | haltInputRisingEdge | haltInputFallingEdge =>
      obtain ⟨p, written, rfl⟩ := counted rfl
      exact ⟨written, trivial⟩
    | configure items =>
      have same := (kept (fun _ h => h) rfl).1
      exact ⟨⟨by rw [same], by rw [same], by rw [same]⟩, same⟩
    | writeRequest a =>
      cases a with
      | release =>
        cases done
        obtain ⟨_, l, obeys⟩ := releaseSelect_lawful s
        have same := obeys.pos
        exact ⟨⟨by rw [same], by rw [same], by rw [same]⟩, same⟩
      | _ =>
        have same := (kept (fun _ h => h) rfl).2 rfl
        exact ⟨⟨by rw [same], by rw [same], by rw [same]⟩, same⟩
    | badBlock a =>
      have same : t.pos = s.pos := by cases a <;> exact (kept (fun _ h => h) rfl).2 rfl
      exact ⟨⟨by rw [same], by rw [same], by rw [same]⟩, same⟩
    | _ =>
      have same := (kept (fun _ h => h) rfl).2 rfl
      exact ⟨⟨by rw [same], by rw [same], by rw [same]⟩, same⟩
  case port =>
    have writes {l : Licence} (granted : commandLicence c = some l) : (l.settings = false → t.port.settings = s.port.settings)
        ∧ (l.enables = false → t.port.enables = s.port.enables) ∧ (l.mode = false → t.port.mode = s.port.mode)
        ∧ (l.contents = false → ∀ n, planOf n t = planOf n s) := by
      obtain ⟨p, m, _, obeys⟩ := (effect_of_exec done).writes wellFormed l granted
      exact ⟨obeys.settings, obeys.enables, obeys.mode, obeys.contents⟩
    cases c with
    | resetPin _ => exact ⟨trivial, trivial, trivial, trivial⟩
    | configure _ => exact ⟨trivial, (writes rfl).2.1 rfl, (writes rfl).2.2.1 rfl, (writes rfl).2.2.2 rfl⟩
    | setEventEnables _ => exact ⟨(writes rfl).1 rfl, trivial, (writes rfl).2.2.1 rfl, (writes rfl).2.2.2 rfl⟩
    | setMode _ | clear => exact ⟨(writes rfl).1 rfl, (writes rfl).2.1 rfl, trivial, (writes rfl).2.2.2 rfl⟩
    | writePlan _ => exact ⟨(writes rfl).1 rfl, (writes rfl).2.1 rfl, (writes rfl).2.2.1 rfl, trivial⟩
    | writeRequest a =>
      cases a with
      | release => exact ⟨trivial, trivial, trivial, trivial⟩
      | _ => exact ⟨(writes rfl).1 rfl, (writes rfl).2.1 rfl, (writes rfl).2.2.1 rfl, (writes rfl).2.2.2 rfl⟩
    | badBlock a =>
      cases a <;> exact ⟨(writes rfl).1 rfl, (writes rfl).2.1 rfl, (writes rfl).2.2.1 rfl, (writes rfl).2.2.2 rfl⟩
    | _ => exact ⟨(writes rfl).1 rfl, (writes rfl).2.1 rfl, (writes rfl).2.2.1 rfl, (writes rfl).2.2.2 rfl⟩

end

section
/-! The machine after the reset pin (chapter 11.9), and a conserved store that a step does not conserve. -/

namespace Sys2Proof.Machine

open Sys2Proof.Safety

/-! ## After the reset pin -/

@[simp] theorem frameOf_reset (id : FrameId) : frameOf id State.reset = FrameRecord.freed := by
  simp [frameOf, State.reset]

theorem trig_reset (st : Station) : State.reset.trig[st] = StationTriggers.clear := by
  simp [State.reset]

theorem ports_reset (p : Station) : State.reset.ingest.ports[p] = Port.clear := by
  simp [State.reset]

@[simp] theorem gateOf_reset (g : Gate) : gateOf g State.reset = { output := .idle, fires := [] } := by
  cases g <;> rfl

/-- Records that are FREE hold no block. -/
theorem flatMap_blocks_freed (n : Nat) : (List.replicate n FrameRecord.freed).flatMap FrameRecord.blocks = [] :=
  List.flatMap_eq_nil_iff.mpr fun _ member => by rw [List.eq_of_mem_replicate member]; rfl

theorem heldBlocks_reset : heldBlocks State.reset = [] := by
  rw [heldBlocks, State.reset, Vector.toList_replicate, flatMap_blocks_freed]

theorem fifoFrames_reset : fifoFrames State.reset = [] :=
  rfl

theorem storeConserved_reset : StoreConserved State.reset where
  blocks := by rw [heldBlocks_reset, List.append_nil]; rfl
  freeHolds id _ := by rw [frameOf_reset]; rfl
  usedHolds id used := absurd (by rw [frameOf_reset]; rfl) used
  reclaimExact id := by rw [frameOf_reset]; exact ⟨nofun, nofun⟩
  reclaimNodup := List.nodup_nil
  orderExact id := by rw [frameOf_reset]; exact ⟨nofun, nofun⟩
  orderNodup := List.nodup_nil
  fifoFilling _ member := by rw [fifoFrames_reset] at member; exact nomatch member
  fifoNodup := by rw [fifoFrames_reset]; exact List.nodup_nil
  fifoSettled p := by rw [ports_reset]; exact ⟨nofun, nofun⟩
  openCounted id := by rw [frameOf_reset]; rfl
  openReady id sent := by rw [frameOf_reset] at sent; exact absurd sent (Nat.lt_irrefl 0)
  openBackground := nofun
  openApart := nofun

theorem queuesOwned_reset : QueuesOwned State.reset where
  count := Nat.zero_le _
  tags := tagsInTurn_of_empty rfl
  items := List.forall_mem_nil _
  queued st := by rw [trig_reset]; exact List.forall_mem_nil _
  queuedOnce st := by rw [trig_reset]; exact List.nodup_nil
  queuedApart st := by rw [trig_reset]; exact List.forall_mem_nil _
  queuedBehind st := by rw [trig_reset]; exact fun _ => rfl
  timed st := by rw [trig_reset]; exact List.forall_mem_nil _
  timedOnce st := by rw [trig_reset]; exact List.nodup_nil
  fires g := by simp
  firesOnce g := by simp
  outputOn g := by simp
  outputRecovery g := by simp

/-! ## An ABORT owed on a frame that is not being sent -/

/-- The link UP, frame 0 READY and being sent as a deadline copy, and among the ABORTs owed after a CLEAR one marked by a void,
on another frame: no command leads to such an ABORT, but nothing that the invariant says of the store excludes it. -/
def strayAbort : State :=
  { State.reset with
    link.state := .up
    store.freeList := fullFreeList.tail
    store.frames := State.reset.store.frames.set 0
      { FrameRecord.freed with state := .ready, cls := .deadline, blocks := [0], openTx := 1 }
    uplink.deadline := some { frame := 0, factor := 1, deadline := 0, slack := 0, offset := 0, last := false, abort := false }
    uplink.clearAborts := [{ kind := .deadline, frame := 1, number := 0, reason := .void }]
    pending := [.segmentBoundary] }

theorem frameOf_strayAbort_zero :
    frameOf 0 strayAbort = { FrameRecord.freed with state := .ready, cls := .deadline, blocks := [0], openTx := 1 } :=
  Vector.getElem_set_self _

theorem frameOf_strayAbort_other {id : FrameId} (h : id ≠ 0) : frameOf id strayAbort = FrameRecord.freed := by
  have apart : (0 : Nat) ≠ id.val := fun same => h (Fin.ext same.symm)
  rw [← frameOf_reset id]
  exact Vector.getElem_set_ne (Nat.zero_lt_succ _) id.isLt apart

theorem heldBlocks_strayAbort : heldBlocks strayAbort = [0] := by
  have frames : strayAbort.store.frames.toList =
      { FrameRecord.freed with state := .ready, cls := .deadline, blocks := [0], openTx := 1 }
        :: List.replicate 1023 FrameRecord.freed := rfl
  rw [heldBlocks, frames, List.flatMap_cons, flatMap_blocks_freed]
  rfl

theorem storeConserved_strayAbort : StoreConserved strayAbort := by
  refine ⟨?blocks, fun id => ?freeHolds, fun id => ?usedHolds, fun id => ?reclaim, List.nodup_nil, fun id => ?order, List.nodup_nil,
    List.forall_mem_nil _, List.nodup_nil, fun p => ?settled, fun id => ?counted, fun id => ?ready, List.forall_mem_nil _,
    fun _ _ => List.forall_mem_nil _⟩
  case blocks =>
    have head : fullFreeList = 0 :: fullFreeList.tail := rfl
    rw [heldBlocks_strayAbort, head]
    exact List.perm_append_comm
  case settled =>
    have empty : strayAbort.ingest.ports[p] = Port.clear := ports_reset p
    rw [empty]
    exact ⟨nofun, List.forall_mem_nil _⟩
  case freeHolds | usedHolds | ready =>
    by_cases zero : id = 0
    · rw [zero, frameOf_strayAbort_zero]
      decide
    · rw [frameOf_strayAbort_other zero]
      decide
  case reclaim | order =>
    by_cases zero : id = 0
    · rw [zero, frameOf_strayAbort_zero]
      exact ⟨nofun, nofun⟩
    · rw [frameOf_strayAbort_other zero]
      exact ⟨nofun, nofun⟩
  case counted =>
    by_cases zero : id = 0
    · rw [zero, frameOf_strayAbort_zero]
      rfl
    · have apart : (0 : FrameId) ≠ id := Ne.symm zero
      rw [frameOf_strayAbort_other zero]
      simp [transmissionsOn, strayAbort, State.reset, apart, FrameRecord.freed]

/-- The ABORT closes the deadline transmission of frame 0, and reports the closing of frame 1. -/
theorem step_strayAbort :
    ∃ t, step strayAbort = .next t ∧ (frameOf 0 t).openTx = 1 ∧ transmissionsOn 0 t.uplink = 0 :=
  ⟨_, rfl, rfl, rfl⟩

end Sys2Proof.Machine

open Sys2Proof Sys2Proof.Machine Sys2Proof.Safety

/-- Settles O13, invariant by invariant. -/
theorem resetIsSound : Obligations.ResetIsSound where
  memory := rfl
  bounds := withinBounds_iff.mpr ⟨Nat.zero_le _, Nat.zero_le _, roomy_reset⟩
  tags := tagsInTurn_of_empty rfl
  owned := queuesOwned_reset
  inUse n := by cases n <;> rfl
  plans := plansSound_reset
  settings := ⟨settingsInRange_reset, neg_one_lt_zero, zero_lt_one⟩
  store := storeConserved_reset

/-- Refutes O12: the ABORTs owed after a CLEAR are no part of `StoreConserved`. Where one of them, which no command owes, is
marked by a void and names a frame that is not being sent, a segment boundary sends it, takes the open deadline transmission
away and reports the closing of the frame it names, so that the frame that was being sent keeps its count of 1. -/
theorem not_everyStepConservesTheStore : ¬ Obligations.EveryStepConservesTheStore := by
  intro keeps
  obtain ⟨t, done, stale, closed⟩ := step_strayAbort
  have counted := (keeps strayAbort t storeConserved_strayAbort done).openCounted 0
  rw [stale, closed] at counted
  exact absurd counted one_ne_zero

end

section
/-! Events and counts in the words of the claims, retirement (1.10), and the life of a record (O6). -/

namespace Sys2Proof.Machine

open Sys2Proof.Safety

variable (s : State)

/-! ## Frames of folds -/

/-- What no step of a fold changes is as it was. -/
theorem foldl_keeps {α β : Type} (g : State → β) {f : State → α → State} (each : ∀ t a, g (f t a) = g t) (l : List α) :
    g (l.foldl f s) = g s := by
  induction l generalizing s with
  | nil => rfl
  | cons a l ih => exact (ih (f s a)).trans (each s a)

/-! ## Events and counts (R183, R185) -/

/-- The first event of R183's list is bit 15 (12.7). -/
theorem Event.mark_eq (e : Event) : e.mark = 1#16 <<< (15 - e.place) := by
  cases e <;> rfl

theorem raise_eq (e : Event) : raise e s = { s with port.flags := s.port.flags ||| (1#16 <<< (15 - e.place)) } := by
  rw [raise, Event.mark_eq]

theorem bump_eq (c : Count) :
    bump c s = { s with port.counts := s.port.counts.set c.place.val (oneMore s.port.counts[c.place]) c.place.isLt } := by
  rw [bump, countUp_eq]

/-- An event raised and a count incremented, in the words of the claims. -/
theorem bump_raise_eq (e : Event) (c : Count) : bump c (raise e s) = noted (15 - e.place) c.place s := by
  rw [bump_eq, raise_eq]
  rfl

/-! ## Reports (R140) -/

/-- A report offered: it joins the queue, and where it drops the oldest the loss is raised and counted. -/
theorem offerReport_eq (r : Report) : offerReport r s = { s with
    uplink.reports := joinReports r s.uplink.reports
    port := (if s.uplink.reports.length < 64 then s else noted 2 12 s).port } := by
  unfold offerReport joinReports Config.reportQueueCapacity
  by_cases full : 64 ≤ s.uplink.reports.length
  · rw [if_pos full, if_neg (Nat.not_lt.mpr full), if_neg (Nat.not_lt.mpr full), bump_raise_eq]
    rfl
  · rw [if_neg full, if_pos (Nat.lt_of_not_le full), if_pos (Nat.lt_of_not_le full)]

/-! ## Retirement (R16, R17) -/

theorem mayRetire_iff {i : Item} {s : State} : mayRetire i s = true ↔
    (i.phase = .passed ∨ i.phase = .void) ∧ reached s.pos.position (i.entry + (planOf i.bank s).exit.setWidth 32) := by
  simp [mayRetire, positionReached_iff, pointAt]

variable {s}

/-- The head stays where it may not retire. -/
theorem examineHead_of_stays {i : Item} {rest : List Item} (items : s.queue.items = i :: rest) (stays : mayRetire i s = false) :
    examineHead s = s := by
  rw [examineHead, items, List.length_cons, examineHeads, items]
  simp [stays]

@[simp] theorem retireHead_items (i : Item) (rest : List Item) (s : State) : (retireHead i rest s).queue.items = rest := by
  simp [retireHead]

/-- A head that may retire does, and the next head is examined at once. -/
theorem examineHead_of_retires {i : Item} {rest : List Item} (items : s.queue.items = i :: rest) (retires : mayRetire i s = true) :
    examineHead s = examineHead (retireHead i rest s) := by
  rw [examineHead, examineHead, items, List.length_cons, examineHeads, items, retireHead_items]
  simp [retires]

theorem examineHead_of_empty (empty : s.queue.items = []) : examineHead s = s := by
  rw [examineHead, empty]
  rfl

theorem stationEntries_of_frames {t : State} (i : Item) (frames : t.store.frames = s.store.frames) :
    stationEntries i t = stationEntries i s := by
  have same (id : FrameId) : frameOf id t = frameOf id s := congrArg (fun v => v[id]) frames
  unfold stationEntries references
  simp only [same]

/-- A report reads position, time, frames and the record's plan. -/
theorem reportOn_congr {t : State} (kind : ReportKind) (i : Item) (kept : Bool) (depth : Nat) (pos : t.pos = s.pos)
    (frames : t.store.frames = s.store.frames) (plan : planOf i.bank t = planOf i.bank s) :
    reportOn kind i kept depth t = reportOn kind i kept depth s := by
  unfold reportOn timeToPoint
  rw [stationEntries_of_frames i frames, pos, plan]

/-- A record that retires: it leaves the queue and its bank's in-use count, and its report is offered. -/
theorem retireHead_eq (i : Item) (rest : List Item) : retireHead i rest s = { s with
      queue.items := rest
      plans := (updBank i.bank (fun b => { b with inUse := b.inUse - 1 }) s).plans
      uplink.reports := joinReports (reportOn .retire i false 0 s) s.uplink.reports
      port := (if s.uplink.reports.length < 64 then s else noted 2 12 s).port } := by
  have same : updBank i.bank (fun b => { b with inUse := b.inUse - 1 }) { s with queue.items := rest } = { s with
      queue.items := rest, plans := (updBank i.bank (fun b => { b with inUse := b.inUse - 1 }) s).plans } := by
    cases i.bank <;> rfl
  rw [retireHead, offerReport_eq, same, reportOn_congr (s := s) .retire i false 0 rfl rfl (by cases i.bank <;> rfl)]
  split <;> rfl

/-- The present flag of a station entry (R10). -/
theorem stationEntries_present_iff (i : Item) (st : Station) : ((stationEntries i s)[st].present = true) ↔
    ∃ id, i.stations[st].frameId? = some id ∧ (frameOf id s).state ≠ .free ∧ (frameOf id s).tag = i.tag
      ∧ (frameOf id s).bank = i.bank ∧ (frameOf id s).station = st := by
  simp only [stationEntries, Fin.getElem_fin, Vector.getElem_ofFn, references]
  cases i.stations[st.val].frameId? with
  | none => simp
  | some id => simp [Option.isSome_ite]

/-! ## What a void does, the head's examination apart (R13 to R15) -/

/-- The record is VOID and the units have let its item go; the head is not examined yet. -/
def voidUnits (i : Item) (s : State) : State :=
  removeFire i (framesAtVoid i (removeTriggers i.tag i.bank (updItem i.tag Item.voided s)))

theorem voidRecord_eq (i : Item) (s : State) : voidRecord i s = examineHead (voidUnits i s) :=
  rfl

/-- What neither a frame's change nor a mark for abort touches, a void's work on the frames leaves as it was. -/
theorem framesAtVoid_keeps {β : Type} (g : State → β) (upd : ∀ t id f, g (updFrame id f t) = g t)
    (mark : ∀ t id, g (markAbort id t) = g t) (i : Item) (s : State) : g (framesAtVoid i s) = g s := by
  refine foldl_keeps s g (fun t st => ?_) _
  split
  · rw [upd, mark]
  · rfl

theorem removeFire_eq (i : Item) (s : State) : removeFire i s = { s with gates := (removeFire i s).gates } := by
  unfold removeFire
  split
  · split
    · exact Eq.symm (by cases ‹Gate› <;> rfl)
    · rfl
  · rfl

section

variable (i : Item) (s : State)

@[simp] theorem voidUnits_pos : (voidUnits i s).pos = s.pos := by
  rw [voidUnits, removeFire_eq]
  exact framesAtVoid_keeps State.pos (by simp) (by simp [markAbort]) _ _

@[simp] theorem voidUnits_queue : (voidUnits i s).queue = (updItem i.tag Item.voided s).queue := by
  rw [voidUnits, removeFire_eq]
  exact framesAtVoid_keeps State.queue (by simp) (by simp [markAbort]) _ _

@[simp] theorem voidUnits_plans : (voidUnits i s).plans = s.plans := by
  rw [voidUnits, removeFire_eq]
  exact framesAtVoid_keeps State.plans (by simp) (by simp [markAbort]) _ _

@[simp] theorem voidUnits_port : (voidUnits i s).port = s.port := by
  rw [voidUnits, removeFire_eq]
  exact framesAtVoid_keeps State.port (by simp) (by simp [markAbort]) _ _

@[simp] theorem voidUnits_reports : (voidUnits i s).uplink.reports = s.uplink.reports := by
  rw [voidUnits, removeFire_eq]
  exact framesAtVoid_keeps (fun t => t.uplink.reports) (by simp) (by simp [markAbort]) _ _

end

/-! ## VOID ITEM taken (R12) -/

theorem answerVoidItem_of_undecided {mode : Byte} {n : Word16} {depth : Nat} {i : Item}
    (found : address mode n s = .found depth i) (phase : i.phase = .entered ∨ i.phase = .complete ∨ i.phase = .decided) :
    answerVoidItem mode n s = (voidRecord i s, .ok, [i.phase.code]) := by
  unfold answerVoidItem
  rw [found]
  rcases phase with phase | phase | phase <;> simp only [phase]

theorem exec_voidItem_of_free (mode : Byte) (n : Word16) (free : busy s = false) :
    exec (.voidItem mode n) s = .next (holdAnswer 9 (answerVoidItem mode n (sendZeros 5 s))) :=
  congrArg Host.Outcome.next (takeRequest_of_free s (.voidItem mode n) free)

/-- A VOID ITEM of the only record, its exit point reached, retires it (R16). -/
theorem voidRecord_only {i : Item} (only : s.queue.items = [i])
    (due : reached s.pos.position (i.entry + (planOf i.bank s).exit.setWidth 32)) :
    voidRecord i s = retireHead i.voided [] (voidUnits i s) := by
  have items : (voidUnits i s).queue.items = [i.voided] := by
    rw [voidUnits_queue]
    simp [updItem, only]
  have plan : planOf i.voided.bank (voidUnits i s) = planOf i.bank s := by
    simp only [planOf, bankOf, voidUnits_plans]
    rfl
  rw [voidRecord_eq, examineHead_of_retires items, examineHead_of_empty (retireHead_items _ _ _)]
  rw [mayRetire_iff, plan, voidUnits_pos]
  exact ⟨.inr rfl, due⟩

end Sys2Proof.Machine

open Sys2Proof Sys2Proof.Machine Sys2Proof.Safety

/-- Settles O6: the course of the queue is that of every command, and an examination of the head is one retirement after
another. -/
theorem recordsStayThenRetire : Obligations.RecordsStayThenRetire := by
  unfold Obligations.RecordsStayThenRetire
  refine ⟨fun c s t done => ?runs, fun c s t turn room done => ?decided, fun i rest s items => ⟨fun stays => ?stays,
    fun retires => ?retires⟩, fun mode n i s t free only found phase due room done => ?void⟩
  case runs => exact (effect_of_exec done).lawful.runs
  case decided => exact (effect_of_exec done).lawful.decided turn room
  case stays => exact examineHead_of_stays items (Bool.eq_false_iff.mpr (mt mayRetire_iff.mp stays))
  case retires =>
    refine ⟨reportOn .retire i false 0 s, _, examineHead_of_retires items (mayRetire_iff.mpr retires), ?_⟩
    rw [retireHead_eq]
    refine ⟨rfl, ?_, ?_, ?_, ?_, rfl, rfl, rfl, rfl, rfl, rfl, rfl, rfl, rfl, rfl, rfl, fun st => ⟨?_, ?_⟩⟩
    · cases i.bank <;> rfl
    · cases i.bank <;> rfl
    · cases i.bank <;> rfl
    · cases i.bank <;> rfl
    · simp [reportOn, stationEntries]
    · exact stationEntries_present_iff i st
  case void =>
    rw [exec_voidItem_of_free mode n free, answerVoidItem_of_undecided (s := sendZeros 5 s) found phase,
      voidRecord_only (s := sendZeros 5 s) only due, retireHead_eq] at done
    cases done
    have bank : i.voided.bank = i.bank := rfl
    refine ⟨?_, ?_, reportOn .retire i.voided false 0 (voidUnits i (sendZeros 5 s)), ?_, rfl, rfl, rfl, rfl⟩
    · simp [holdAnswer, updItem, sendZeros]
    · cases name : i.bank <;> simp [holdAnswer, bankOf, updBank, bank, name, sendZeros]
    · simp [holdAnswer, joinReports, room, sendZeros]

end

section
/-! The reset pin, unit by unit (O14). -/

open Sys2Proof Sys2Proof.Machine Sys2Proof.Safety

theorem fullFreeList_map_val : fullFreeList.map Fin.val = List.range 8192 := by
  rw [fullFreeList, List.map_map, List.range_eq_range']
  conv_rhs => rw [← List.map_id (List.range' 0 8192)]
  refine List.map_congr_left fun k member => ?_
  rw [List.mem_range'_1] at member
  exact Nat.mod_eq_of_lt (by omega)

/-- Settles O14: the state after the reset pin is written out in the model, and its vectors hold one value in every place. -/
theorem resetPinSetsEveryUnit : Obligations.ResetPinSetsEveryUnit := by
  intro p s
  have station (st : Station) : (planOf .a State.reset).stations[st] = { enable := false, strobe := false, offset := 0, exposure := 0 } := by
    simp [planOf, bankOf, State.reset, Plan.reset]
  have freed (id : FrameId) : frameOf id (afterReset p s) = FrameRecord.freed := frameOf_reset id
  refine ⟨afterReset p s, rfl, rfl, rfl, rfl, rfl, fun n => ?banks, trig_reset, ports_reset, rfl, rfl, fullFreeList_map_val, rfl, rfl,
    fun id => ?frames, rfl, rfl, rfl, rfl, rfl, rfl, rfl, rfl, rfl, rfl, rfl, rfl, rfl, rfl, rfl, rfl, rfl, fun k => ?counts, rfl, rfl,
    rfl, rfl, ?attention, rfl, rfl⟩
  case banks => cases n <;> exact ⟨rfl, rfl, station, rfl, rfl, rfl, rfl, rfl⟩
  case frames => rw [freed]; exact ⟨rfl, rfl, rfl, rfl, rfl, rfl, rfl⟩
  case attention => simp [attention, afterReset, State.reset]
  case counts => exact Vector.getElem_replicate k.isLt

end

section
/-! Kept frames and the two masters' marks (7.5, O7). -/

namespace Sys2Proof.Machine

open Sys2Proof.Safety

/-- The records in use were in use before, and one mark stands on them as it stood. -/
def SameMark (m : KeepMark) (s t : State) : Prop :=
  ∀ id, (frameOf id t).state ≠ .free → (frameOf id s).state ≠ .free ∧ (frameOf id t).marked m = (frameOf id s).marked m

theorem SameMark.of_store_eq {m : KeepMark} {s t : State} (store : t.store = s.store) : SameMark m s t := by
  have same (id : FrameId) : frameOf id t = frameOf id s := by rw [frameOf, store, ← frameOf]
  exact fun id used => ⟨same id ▸ used, by rw [same]⟩

theorem SameMark.trans {m : KeepMark} {s t u : State} (h : SameMark m s t) (g : SameMark m t u) : SameMark m s u :=
  fun id used =>
    have ⟨between, second⟩ := g id used
    have ⟨before, first⟩ := h id between
    ⟨before, second.trans first⟩

theorem SameMark.foldl {α : Type} {m : KeepMark} {f : State → α → State} (each : ∀ t a, SameMark m t (f t a)) (l : List α)
    (s : State) : SameMark m s (l.foldl f s) := by
  induction l generalizing s with
  | nil => exact .of_store_eq rfl
  | cons a l ih => exact (each s a).trans (ih (f s a))

theorem FrameRecord.withMark_other {m o : KeepMark} (apart : m ≠ o) (v : Bool) (r : FrameRecord) :
    (r.withMark m v).state = r.state ∧ (r.withMark m v).marked o = r.marked o := by
  match m, o, apart with
  | .k0, .k1, _ | .k1, .k0, _ => exact ⟨rfl, rfl⟩
  | .k0, .k0, apart | .k1, .k1, apart => exact absurd rfl apart

theorem SameMark.updFrame {m o : KeepMark} (apart : m ≠ o) (v : Bool) (s : State) (id : FrameId) :
    SameMark o s (updFrame id (FrameRecord.withMark m v) s) := by
  intro k used
  by_cases same : k = id
  · subst same
    rw [frameOf_updFrame_same] at used ⊢
    obtain ⟨state, mark⟩ := FrameRecord.withMark_other apart v (frameOf k s)
    split at used
    · exact absurd rfl used
    · rw [if_neg ‹_›]
      exact ⟨state ▸ used, mark⟩
  · rw [frameOf_updFrame_other s _ same] at used ⊢
    exact ⟨used, rfl⟩

/-- KEEP and RELEASE of one master leave the other's mark (R113, R171). -/
theorem SameMark.answerMark {m o : KeepMark} (apart : m ≠ o) (v : Bool) (target : Byte) (n tag : Word16) (s : State) :
    SameMark o s (answerMark m v target n tag s).1 := by
  have same : SameMark o s s := .of_store_eq rfl
  unfold Machine.answerMark
  split
  · unfold Machine.answerMarkFrame
    split
    · exact same
    · simp only
      split
      · exact same
      · exact .updFrame apart v s _
  · split
    · split
      · exact same
      · exact same
      · exact .foldl (fun t (p : Station × FrameId) => .updFrame apart v t p.2) _ s
    · exact same

theorem goodInAligning_store (s : State) : (goodInAligning s).store = s.store := by
  unfold goodInAligning linkUp
  split
  · simp
  · rfl

theorem beginBlock_store (s : State) : (beginBlock s).store = s.store := by
  unfold beginBlock
  split
  · rfl
  all_goals
    unfold blockStart
    split <;> rfl

/-- A KEEP or RELEASE of the office, whatever the link's state. -/
theorem SameMark.office (v : Bool) (kind number target : Byte) (n tag : Word16) (s : State) :
    SameMark .k1 s (goodBlock (dispatch kind number (Machine.answerMark .k0 v target n tag)) (beginBlock s)) := by
  refine SameMark.trans (.of_store_eq (beginBlock_store s)) ?_
  cases state : (beginBlock s).link.state with
  | aligning =>
    rw [goodBlock_aligning _ _ state]
    exact .of_store_eq (goodInAligning_store _)
  | up =>
    rw [goodBlock_up _ _ state, dispatch_eq]
    have apart : KeepMark.k0 ≠ .k1 := nofun
    exact SameMark.trans (SameMark.answerMark (s := heard (beginBlock s)) apart v target n tag) (.of_store_eq (by simp))

/-- A KEEP or RELEASE of the line controller, taken or not. -/
theorem SameMark.takeRequest {r : LineRequest} {v : Bool} {target : Byte} {n tag : Word16}
    (owner : ∀ t, ownerAnswer r t = Machine.answerMark .k1 v target n tag t) (s : State) :
    SameMark .k0 s (takeRequest r s) := by
  cases free : busy s with
  | true => exact .of_store_eq (by rw [takeRequest_of_busy s r free])
  | false =>
    rw [takeRequest_of_free s r free, answerTaken]
    split
    · rw [owner]
      have apart : KeepMark.k1 ≠ .k0 := nofun
      exact SameMark.answerMark apart v target n tag (sendZeros r.transaction.length s)
    · exact .of_store_eq rfl

end Sys2Proof.Machine

open Sys2Proof Sys2Proof.Machine Sys2Proof.Safety

/-- Settles O7: a command whose licence does not let frames go guards the kept ones, and each master's requests touch that
master's mark. -/
theorem keepMarksHold : Obligations.KeepMarksHold := by
  unfold Obligations.KeepMarksHold
  refine ⟨fun c s t id conserved wellFormed done => ?kept, fun n target number tag id s t => ⟨?office, ?lineController⟩⟩
  case kept =>
    have kept {l : Licence} (granted : commandLicence c = some l) (no : l.frames = false) : (frameOf id s).state ≠ .free →
        ((frameOf id s).k0 = true ∨ (frameOf id s).k1 = true) → (frameOf id t).state ≠ .free ∧
          (frameOf id t).tag = (frameOf id s).tag ∧ (frameOf id t).bank = (frameOf id s).bank
          ∧ (frameOf id t).station = (frameOf id s).station ∧ ((frameOf id s).k0 = true → (frameOf id t).k0 = true)
          ∧ ((frameOf id s).k1 = true → (frameOf id t).k1 = true) := by
      intro used marked
      obtain ⟨p, m, _, obeys⟩ := (effect_of_exec done).writes wellFormed l granted
      have h := (obeys.guards no fun k => (conserved.reclaimExact k).mp).2 id ⟨used, marked⟩
      exact ⟨h.state used, h.tag, h.bank, h.station, h.k0, h.k1⟩
    cases c with
    | clear | resetPin _ | release _ _ _ _ => trivial
    | badBlock a =>
      cases a with
      | dataByte _ => trivial
      | _ => exact kept rfl rfl
    | writeRequest a =>
      cases a with
      | release => trivial
      | _ => exact kept rfl rfl
    | _ => exact kept rfl rfl
  case office =>
    rintro (done | done) used <;> cases done
    · exact (SameMark.office true _ n target number tag s id used).2
    · exact (SameMark.office false _ n target number tag s id used).2
  case lineController =>
    rintro (done | done) used <;> cases done
    · exact (SameMark.takeRequest (v := true) (fun _ => rfl) s id used).2
    · exact (SameMark.takeRequest (v := false) (fun _ => rfl) s id used).2

end

section
/-! The Position Unit (chapter 2): the encoder and its count (O15), the speed window (O16), the infeed sensor (O18). -/

namespace Sys2Proof.Machine

open Sys2Proof.Safety

/-! ## Commands in a row -/

/-- Commands that each run one function of the state lead where folding that function leads. -/
theorem leads_foldl {α : Type} {c : α → Instr} {f : State → α → State} (each : ∀ t a, exec (c a) t = .next (f t a)) (l : List α)
    (s : State) : Leads (l.map c) s (l.foldl f s) := by
  induction l generalizing s with
  | nil => rfl
  | cons a l ih => exact ⟨f s a, each s a, ih (f s a)⟩

/-! ## The encoder (R23, R24) -/

/-- The four changes of the pair of levels that are a forward step (R23): held pair, then new pair. -/
def forwardPairs : List (Bool × Bool × Bool × Bool) :=
  [(false, false, true, false), (true, false, true, true), (true, true, false, true), (false, true, false, false)]

theorem decodeStep_of_forward (p : Polarity) {heldA heldB a b : Bool} (h : (heldA, heldB, a, b) ∈ forwardPairs) :
    decodeStep p heldA heldB a b = some (Direction.under .forward p) := by
  cases p <;> revert heldA heldB a b <;> decide

theorem decodeStep_of_backward (p : Polarity) {heldA heldB a b : Bool} (h : (a, b, heldA, heldB) ∈ forwardPairs) :
    decodeStep p heldA heldB a b = some (Direction.under .backward p) := by
  cases p <;> revert heldA heldB a b <;> decide

theorem decodeStep_of_neither (p : Polarity) {heldA heldB a b : Bool} (h : (heldA, heldB, a, b) ∉ forwardPairs)
    (g : (a, b, heldA, heldB) ∉ forwardPairs) : decodeStep p heldA heldB a b = none := by
  cases p <;> revert heldA heldB a b <;> decide

variable {s : State} {a b : Bool} {o : WatchOrder} {d : Direction}

/-- The position unit's own part of a count, of the step whose pair is now held (R22, R24, R28). -/
def countedBy (d : Direction) (held : State) : State :=
  { held with pos := { held.pos with residue := 0, position := held.pos.position + BitVec.ofInt 32 d.sign, direction := d,
                                     windowAcc := held.pos.windowAcc + d.sign } }

theorem exec_encoderStep_of_none (none : decodeStep s.port.settings.polarity s.pos.heldA s.pos.heldB a b = none) :
    exec (.encoderStep a b o) s = .next { s with pos.heldA := a, pos.heldB := b } := by
  simp only [exec, execEncoderStep, none]

theorem exec_encoderStep_of_some (step : decodeStep s.port.settings.polarity s.pos.heldA s.pos.heldB a b = some d) :
    exec (.encoderStep a b o) s = .next (feedPrescaler d o { s with pos.heldA := a, pos.heldB := b }) := by
  simp only [exec, execEncoderStep, step]

/-- A step that does not bring the residue to p or -p moves the residue alone (R24). -/
theorem feedPrescaler_of_between (below : s.pos.residue + d.sign ≠ s.port.settings.prescaler)
    (above : s.pos.residue + d.sign ≠ -(s.port.settings.prescaler : Int)) :
    feedPrescaler d o s = { s with pos.residue := s.pos.residue + d.sign } := by
  simp only [feedPrescaler, prescale, if_neg below, if_neg above]

/-- The step that brings the residue to p or -p makes a count in its own direction (R24, R26). -/
theorem feedPrescaler_of_full (positive : 0 < s.port.settings.prescaler)
    (full : s.pos.residue + d.sign = d.sign * s.port.settings.prescaler) :
    feedPrescaler d o s = (watchers o).foldl (fun t w => watch w t) (countedBy d s) := by
  have counted : prescale s.port.settings.prescaler s.pos.residue d = (0, some d) := by
    cases d with
    | forward => rw [prescale, if_pos (by simpa [Direction.sign] using full)]
    | backward =>
      simp only [Direction.sign] at full
      rw [prescale, if_neg (by simp only [Direction.sign]; omega), if_pos (by simp only [Direction.sign]; omega)]
  simp only [feedPrescaler, counted]
  rfl

/-! ## The watchers of a count (R26) -/

theorem updGate_of_fixed {g : Gate} {f : GateState → GateState} (fixed : f (gateOf g s) = gateOf g s) : updGate g f s = s := by
  cases g
  · show { s with gates.reject := f (gateOf .reject s) } = s
    rw [fixed]
    rfl
  · show { s with gates.rework := f (gateOf .rework s) } = s
    rw [fixed]
    rfl

/-- A gate with no fire whose output is not on is left as it is by its examination (R148, R150). -/
theorem examineGate_of_idle {g : Gate} (empty : (gateOf g s).fires = []) (off : (gateOf g s).output ≠ .on) :
    examineGate g s = s := by
  have starts : startFires g s = s := by simp [startFires, empty]
  have ends : endFires g s = updGate g (fun t => { t with fires := [] }) s := by
    simp [endFires, empty, beq_eq_false_iff_ne.mpr off]
  rw [examineGate, starts, ends]
  exact updGate_of_fixed (by rw [← empty])

/-- With nothing live and both gates off, no watcher changes anything. -/
theorem watch_of_nothing_live (empty : s.queue.items = []) (reject : s.gates.reject.fires = []) (rework : s.gates.rework.fires = [])
    (rejectOff : s.gates.reject.output ≠ .on) (reworkOff : s.gates.rework.output ≠ .on) (w : Watcher) : watch w s = s := by
  cases w with
  | triggerUnit => simp [watch, examineAllTriggers, empty]
  | decisionUnit => simp [watch, examineAllDecisions, empty]
  | gateUnit =>
    rw [watch, examineGates, examineGate_of_idle (g := .reject) reject rejectOff,
      examineGate_of_idle (g := .rework) rework reworkOff, examineHead_of_empty empty]
  | itemQueue => exact examineHead_of_empty empty

theorem foldl_watch_of_nothing_live (still : ∀ w, watch w s = s) (l : List Watcher) : l.foldl (fun t w => watch w t) s = s := by
  induction l with
  | nil => rfl
  | cons w l ih => rw [List.foldl_cons, still w, ih]

theorem watchers_perm (o : WatchOrder) : (watchers o).Perm [.triggerUnit, .decisionUnit, .gateUnit, .itemQueue] := by
  revert o
  decide

theorem exists_watchers {l : List Watcher} (perm : l.Perm [.triggerUnit, .decisionUnit, .gateUnit, .itemQueue]) :
    ∃ o : WatchOrder, watchers o = l := by
  have all : ∀ k ∈ List.permutations' [Watcher.triggerUnit, .decisionUnit, .gateUnit, .itemQueue], ∃ o : WatchOrder, watchers o = k := by
    decide
  exact all l (List.mem_permutations'.mpr perm)

/-! ## The infeed sensor (R32, R33) -/

/-! A captured position meets a full queue, is refused, or creates an item (R5, R8). -/

theorem offerEntry_of_full {e : Word32} (full : 128 ≤ s.queue.items.length) : offerEntry e s = noted 15 0 s := by
  rw [offerEntry, if_pos ((queueFull_iff s).mpr full), refuseFull_eq]

theorem offerEntry_of_tooClose {e : Word32} (room : s.queue.items.length < 128) (close : ¬ farEnough e s) :
    offerEntry e s = noted 14 1 s := by
  rw [offerEntry, (queueFull_eq_false_iff s).mpr room, Bool.eq_false_iff.mpr (mt (pitchOk_iff s e).mp close), bump_raise_eq]
  rfl

theorem offerEntry_of_farEnough {e : Word32} (room : s.queue.items.length < 128) (far : farEnough e s) :
    offerEntry e s = withCreation e s := by
  rw [offerEntry, (queueFull_eq_false_iff s).mpr room, (pitchOk_iff s e).mpr far, createItem_eq]
  rfl

theorem exec_sensorRisingEdge_of_captured (low : s.pos.sensor = false) (captured : captures s = true) :
    exec .sensorRisingEdge s = .next (offerEntry s.pos.position { s with pos.sensor := true }) := by
  simp only [exec, execSensorRisingEdge, low, captured, Bool.false_eq_true, if_false, if_true]

theorem exec_sensorRisingEdge_of_high (high : s.pos.sensor = true) : exec .sensorRisingEdge s = .next s := by
  simp only [exec, execSensorRisingEdge, high, if_true]

theorem exec_sensorRisingEdge_of_suppressed (suppressed : captures s = false) :
    exec .sensorRisingEdge s = .next { s with pos.sensor := true } := by
  cases level : s.pos.sensor with
  | false => simp only [exec, execSensorRisingEdge, level, suppressed, Bool.false_eq_true, if_false]
  | true =>
    rw [exec_sensorRisingEdge_of_high level, ← level]

/-! ## The speed window (R28, R29) -/

theorem windowSample_eq (acc : Int) : windowSample acc = min 65535 acc.toNat := by
  unfold windowSample
  split
  · omega
  · split <;> omega

theorem exec_speedWindowEnd_of_reached (end_ : reached s.pos.time s.pos.windowEnd) : exec .speedWindowEnd s = .next { s with
    pos.speed := (3 * s.pos.speed + min 65535 s.pos.windowAcc.toNat + 2) / 4, pos.windowAcc := 0,
    pos.windowEnd := s.pos.windowEnd + 1024 } := by
  simp only [exec, execSpeedWindowEnd, timeReached_iff.mpr end_, if_true, nextSpeed, windowSample_eq]
  rfl

end Sys2Proof.Machine

open Sys2Proof Sys2Proof.Machine Sys2Proof.Safety

/-- Settles O15: the pair decides the step, the residue decides the count; each count is folded over the four watchers, of which
none finds work where nothing is live. -/
theorem encoderStepCounts : Obligations.EncoderStepCounts := by
  unfold Obligations.EncoderStepCounts
  refine ⟨fun a b o s positive => ?encoder, watchers_perm, fun _ => exists_watchers, fun s => ⟨?triggers, ?decisions, rfl,
    examineHead_of_headStays s⟩⟩
  case encoder =>
    intro pairs next previous held handled moves
    have handled_eq : handled = fun t w => watch w t := by
      funext t w
      cases w <;> rfl
    have stepMoves {ahead : Prop} {d : Direction} (decoded : ahead →
        decodeStep s.port.settings.polarity s.pos.heldA s.pos.heldB a b = some d) : moves ahead d.sign d := by
      intro h
      rw [exec_encoderStep_of_some (decoded h)]
      refine ⟨fun below above => congrArg _ (feedPrescaler_of_between (s := held) below above), fun full => ?_⟩
      rw [feedPrescaler_of_full (s := held) positive full, handled_eq]
      refine ⟨rfl, fun empty reject rework rejectOff reworkOff => congrArg _ ?_⟩
      exact foldl_watch_of_nothing_live (watch_of_nothing_live (s := countedBy d held) empty reject rework rejectOff reworkOff) _
    refine ⟨fun notNext notPrevious => ?_, fun normal => ⟨stepMoves (d := .forward) fun h => ?_,
      stepMoves (d := .backward) fun h => ?_⟩, fun inverted => ⟨stepMoves (d := .forward) fun h => ?_,
      stepMoves (d := .backward) fun h => ?_⟩⟩
    · exact exec_encoderStep_of_none (decodeStep_of_neither _ notNext notPrevious)
    · rw [decodeStep_of_forward _ h, normal]; rfl
    · rw [decodeStep_of_backward _ h, normal]; rfl
    · rw [decodeStep_of_backward _ h, inverted]; rfl
    · rw [decodeStep_of_forward _ h, inverted]; rfl
  case triggers =>
    have leads := leads_foldl (c := .triggerExaminationAtCreation) (fun _ _ => rfl) (s.queue.items.map Item.tag) s
    rwa [List.map_map] at leads
  case decisions =>
    have leads := leads_foldl (c := .decisionExaminationAtCreation) (fun _ _ => rfl) (s.queue.items.map Item.tag) s
    rwa [List.map_map] at leads

/-- Settles O16: the window's end writes the rule's value, and the rest is the arithmetic of a rounded quarter. -/
theorem speedFollowsItsWindows : Obligations.SpeedFollowsItsWindows := by
  unfold Obligations.SpeedFollowsItsWindows
  refine ⟨fun s => ⟨exec_speedWindowEnd_of_reached, fun before => ?before⟩, fun s t n acc small speed end_ done => ?window⟩
  case before =>
    have : timeReached s.pos.windowEnd s = false := Bool.eq_false_iff.mpr (mt timeReached_iff.mp before)
    simp only [exec, execSpeedWindowEnd, this, Bool.false_eq_true, if_false]
  case window =>
    rw [exec_speedWindowEnd_of_reached end_, Host.Outcome.next.injEq] at done
    have sample : min 65535 s.pos.windowAcc.toNat = n := by omega
    have value : t.pos.speed = (3 * s.pos.speed + n + 2) / 4 := by rw [← done, sample]
    rw [value]
    refine ⟨rfl, ?_, ?_, ?_, ?_⟩ <;> omega

/-- Settles O18: the sample's level, the three conditions of a capture, then R5's two checks. -/
theorem sensorEdgeCases : Obligations.SensorEdgeCases := by
  unfold Obligations.SensorEdgeCases
  refine ⟨fun s => ⟨exec_sensorRisingEdge_of_high, fun suppressed => exec_sensorRisingEdge_of_suppressed ?suppressed, rfl⟩,
    fun s low source running forward => ?captured⟩
  case suppressed =>
    simp only [captures, Bool.and_eq_false_iff, beq_eq_false_iff_ne, bne_eq_false_iff_eq]
    rcases suppressed with source | halted | backward
    · exact .inl (.inl source)
    · exact .inl (.inr halted)
    · exact .inr (by simp [backward])
  case captured =>
    have captured : captures s = true := by simp [captures, source, running, forward]
    intro seen
    rw [exec_sensorRisingEdge_of_captured low captured]
    exact ⟨fun full => congrArg _ (offerEntry_of_full (s := seen) full),
      fun room close => congrArg _ (offerEntry_of_tooClose (s := seen) room close),
      fun room far => congrArg _ (offerEntry_of_farEnough (s := seen) room far)⟩
end

section
/-! Requests about items (chapter 1): addresses (O20), item views (O21), VOID ITEM (O22) and what a void does (O23). -/

namespace Sys2Proof.Machine

open Sys2Proof.Safety

/-! ## Item addresses (R9) -/

theorem findTag_of_getElem? {n d k : Nat} {i : Item} {items : List Item} (distinct : (items.map Item.tag).Nodup)
    (stands : items[k]? = some i) (tag : i.tag.val = n) : findTag n items d = .found (d + k) i := by
  induction items generalizing d k with
  | nil => simp at stands
  | cons j rest ih =>
    rw [List.map_cons, List.nodup_cons] at distinct
    cases k with
    | zero =>
      obtain rfl : j = i := by simpa using stands
      rw [findTag, if_pos tag, Nat.add_zero]
    | succ k =>
      rw [List.getElem?_cons_succ] at stands
      have other : j.tag.val ≠ n := fun same => distinct.1 (List.mem_map.mpr
        ⟨i, List.mem_of_getElem? stands, Fin.ext (tag.trans same.symm)⟩)
      rw [findTag, if_neg other, ih distinct.2 stands, Nat.add_right_comm, Nat.add_assoc]

theorem findTag_of_missing {n d : Nat} {items : List Item} (missing : ∀ i ∈ items, i.tag.val ≠ n) :
    findTag n items d = .noItem := by
  induction items generalizing d with
  | nil => rfl
  | cons j rest ih =>
    rw [List.forall_mem_cons] at missing
    rw [findTag, if_neg missing.1, ih missing.2]

theorem getElem?_of_findTag {n e d : Nat} {i : Item} {items : List Item} (found : findTag n items e = .found d i) :
    e ≤ d ∧ items[d - e]? = some i := by
  induction items generalizing e with
  | nil => simp [findTag] at found
  | cons j rest ih =>
    rw [findTag] at found
    split at found
    · cases found
      simp
    · obtain ⟨le, stands⟩ := ih found
      refine ⟨by omega, ?_⟩
      rwa [show d - e = d - (e + 1) + 1 by omega, List.getElem?_cons_succ]

theorem getElem?_of_address {mode : Byte} {n : Word16} {s : State} {d : Nat} {i : Item} (found : address mode n s = .found d i) :
    s.queue.items[d]? = some i := by
  unfold address findDepth at found
  split at found
  · split at found
    · exact (getElem?_of_findTag found).2
    · cases found
  · split at found
    · split at found
      · split at found
        · cases found
          assumption
        · cases found
      · cases found
    · cases found

/-- A change of the record that carries a tag no other record carries is a change in its place. -/
theorem map_tag_eq_set {items : List Item} {d : Nat} {i : Item} (f : Item → Item) (distinct : (items.map Item.tag).Nodup)
    (stands : items[d]? = some i) : (items.map fun j => if j.tag = i.tag then f j else j) = items.set d (f i) := by
  induction items generalizing d with
  | nil => simp at stands
  | cons j rest ih =>
    rw [List.map_cons, List.nodup_cons] at distinct
    cases d with
    | zero =>
      obtain rfl : j = i := by simpa using stands
      have others : (rest.map fun k => if k.tag = j.tag then f k else k) = rest := by
        refine (List.map_congr_left fun k member => if_neg fun same => distinct.1 ?_).trans (List.map_id' rest)
        exact List.mem_map.mpr ⟨k, member, same⟩
      rw [List.map_cons, if_pos rfl, others, List.set_cons_zero]
    | succ d =>
      rw [List.getElem?_cons_succ] at stands
      have other : j.tag ≠ i.tag := fun same => distinct.1 (List.mem_map.mpr ⟨i, List.mem_of_getElem? stands, same.symm⟩)
      rw [List.map_cons, if_neg other, ih distinct.2 stands, List.set_cons_succ]

/-! ## The item view (R10, R169) -/

section

variable {number mode : Byte} {n : Word16} {s : State}

theorem answerItemView_of_outOfRange (bad : address mode n s = .outOfRange) : answerItemView mode n s = (s, .invalid, []) := by
  rw [answerItemView, bad]

theorem answerItemView_of_noItem (missing : address mode n s = .noItem) : answerItemView mode n s = (s, .noItem, []) := by
  rw [answerItemView, missing]

theorem answerItemView_of_found {d : Nat} {i : Item} (found : address mode n s = .found d i) :
    answerItemView mode n s = (s, .ok, (reportOn .view i false d s).bytes) := by
  rw [answerItemView, found]

/-- READ ITEM taken: five bytes have been sent, all 0, and the view is held under the request's code, 11. -/
theorem exec_readItem_of_answer {r : Result} {body : List Byte} (free : busy s = false)
    (answer : answerItemView mode n (sendZeros 5 s) = (sendZeros 5 s, r, body)) :
    exec (.readItem mode n) s = .next (taken 5 (11 :: r.code :: body) s) :=
  congrArg Host.Outcome.next (takeRequest_of_answer (r := .readItem mode n) free rfl answer)

/-- QUERY ITEM with the link UP: the block is heard, and the view is the reply. -/
theorem exec_queryItem_of_answer {r : Result} {body : List Byte} (up : s.link.state = .up) (whole : noPartial s)
    (answer : answerItemView mode n (heard s) = (heard s, r, body)) :
    exec (.queryItem number mode n) s = .next (replied { kind := 5, number := number, result := r, body := body } s) :=
  congrArg Host.Outcome.next (goodBlock_beginBlock_of_answer up whole answer)

/-! ## VOID ITEM (R12) -/

theorem answerVoidItem_of_outOfRange (bad : address mode n s = .outOfRange) : answerVoidItem mode n s = (s, .invalid, []) := by
  rw [answerVoidItem, bad]

theorem answerVoidItem_of_noItem (missing : address mode n s = .noItem) : answerVoidItem mode n s = (s, .noItem, []) := by
  rw [answerVoidItem, missing]

theorem answerVoidItem_of_tooLate {d : Nat} {i : Item} (found : address mode n s = .found d i)
    (phase : i.phase = .firing ∨ i.phase = .passed) : answerVoidItem mode n s = (s, .tooLate, []) := by
  rw [answerVoidItem, found]
  rcases phase with phase | phase <;> simp only [phase]

theorem answerVoidItem_of_void {d : Nat} {i : Item} (found : address mode n s = .found d i) (phase : i.phase = .void) :
    answerVoidItem mode n s = (s, .void, []) := by
  rw [answerVoidItem, found]
  simp only [phase]

end

/-! ## What the examination of the head leaves alone (R16, R17) -/

section

variable (s : State)

/-- What neither a report nor a change of a bank or of the queue touches, the head's examination leaves as it was. -/
theorem examineHead_keeps {β : Type} (g : State → β) (retire : ∀ i rest t, g (retireHead i rest t) = g t) :
    g (examineHead s) = g s := by
  rw [examineHead]
  generalize s.queue.items.length = fuel
  induction fuel generalizing s with
  | zero => rfl
  | succ fuel ih =>
    rw [examineHeads]
    split
    · rfl
    · split
      · rw [ih, retire]
      · rfl

@[simp] theorem examineHead_trig : (examineHead s).trig = s.trig :=
  examineHead_keeps s State.trig (by simp [retireHead])

@[simp] theorem examineHead_store : (examineHead s).store = s.store :=
  examineHead_keeps s State.store (by simp [retireHead])

@[simp] theorem examineHead_gates : (examineHead s).gates = s.gates :=
  examineHead_keeps s State.gates (by simp [retireHead])

@[simp] theorem examineHead_link : (examineHead s).link = s.link :=
  examineHead_keeps s State.link (by simp [retireHead])

@[simp] theorem examineHead_pos : (examineHead s).pos = s.pos :=
  examineHead_keeps s State.pos (by simp [retireHead])

theorem offerReport_uplink (r : Report) : (offerReport r s).uplink = { s.uplink with reports := joinReports r s.uplink.reports } := by
  rw [offerReport_eq]

@[simp] theorem examineHead_deadline : (examineHead s).uplink.deadline = s.uplink.deadline :=
  examineHead_keeps s (fun t => t.uplink.deadline) (by simp [retireHead, offerReport_uplink])

@[simp] theorem examineHead_region : (examineHead s).uplink.region = s.uplink.region :=
  examineHead_keeps s (fun t => t.uplink.region) (by simp [retireHead, offerReport_uplink])

@[simp] theorem examineHead_background : (examineHead s).uplink.background = s.uplink.background :=
  examineHead_keeps s (fun t => t.uplink.background) (by simp [retireHead, offerReport_uplink])

@[simp] theorem frameOf_examineHead (id : FrameId) : frameOf id (examineHead s) = frameOf id s := by
  rw [frameOf, examineHead_store, frameOf]

end

/-! ## A fold that meets one of its elements once -/

/-- A walk over a list without repetition: what holds up to one element turns, at that element, into what holds from it on. -/
theorem foldl_of_visit {α : Type} {f : State → α → State} {P Q : State → Prop} {a : α} (before : ∀ t b, b ≠ a → P t → P (f t b))
    (visit : ∀ t, P t → Q (f t a)) (behind : ∀ t b, b ≠ a → Q t → Q (f t b)) {l : List α} (member : a ∈ l) (once : l.Nodup)
    {s : State} (start : P s) : Q (l.foldl f s) := by
  have rest (l : List α) (absent : a ∉ l) (t : State) (q : Q t) : Q (l.foldl f t) := by
    induction l generalizing t with
    | nil => exact q
    | cons b l ih =>
      rw [List.mem_cons, not_or] at absent
      exact ih absent.2 _ (behind t b (Ne.symm absent.1) q)
  induction l generalizing s with
  | nil => simp at member
  | cons b l ih =>
    rw [List.nodup_cons] at once
    by_cases same : b = a
    · subst same
      exact rest l once.1 _ (visit s start)
    · exact ih ((List.mem_cons.mp member).resolve_left (Ne.symm same)) once.2 (before s b same start)

theorem mem_allStations (st : Station) : st ∈ allStations := by
  revert st
  decide

theorem nodup_allStations : allStations.Nodup := by
  decide

/-- What an item's station references (R108). -/
theorem references_eq_some_iff {i : Item} {st : Station} {s : State} {id : FrameId} : references i st s = some id ↔
    i.stations[st].frameId? = some id ∧ (frameOf id s).state ≠ .free ∧ (frameOf id s).tag = i.tag
      ∧ (frameOf id s).bank = i.bank ∧ (frameOf id s).station = st := by
  unfold references
  cases i.stations[st].frameId? with
  | none => simp
  | some k =>
    simp only [Option.ite_none_right_eq_some, Option.some.injEq]
    constructor
    · rintro ⟨refers, rfl⟩
      exact ⟨rfl, refers⟩
    · rintro ⟨rfl, refers⟩
      exact ⟨refers, rfl⟩

/-- The record that a frame change leaves (R106, R112). -/
theorem frameOf_updFrame_eq_settled (id : FrameId) (f : FrameRecord → FrameRecord) (s : State) :
    frameOf id (updFrame id f s) = settled (f (frameOf id s)) := by
  rw [updFrame_eq]
  simp [frameOf, withFrame]

theorem station_settled_of_used {r : FrameRecord} (used : (settled r).state ≠ .free) : settled r = r := by
  unfold settled at used ⊢
  split
  · rename_i freed
    rw [if_pos freed] at used
    exact absurd rfl used
  · rfl

/-! ## What a void does to the units (R13 to R15, R81, R112, R132) -/

section

variable (i : Item) (s : State)

@[simp] theorem voidUnits_link : (voidUnits i s).link = s.link := by
  rw [voidUnits, removeFire_eq]
  exact framesAtVoid_keeps State.link (by simp) (by simp [markAbort]) _ _

theorem voidUnits_trig : (voidUnits i s).trig = onEach (StationTriggers.dropItem i.tag i.bank) s.trig := by
  rw [voidUnits, removeFire_eq]
  exact framesAtVoid_keeps State.trig (by simp) (by simp [markAbort]) _ _

theorem voidUnits_gates : (voidUnits i s).gates = (removeFire i s).gates := by
  have gates (t : State) (same : t.gates = s.gates) : (removeFire i t).gates = (removeFire i s).gates := by
    unfold removeFire
    split
    · split
      · cases ‹Gate› <;> simp [updGate, same]
      · exact same
    · exact same
  exact gates _ (framesAtVoid_keeps State.gates (by simp) (by simp [markAbort]) _ _)

/-- What a void's work on the frames touches is as that work leaves it. -/
theorem voidUnits_store : (voidUnits i s).store = (framesAtVoid i (removeTriggers i.tag i.bank (updItem i.tag Item.voided s))).store := by
  rw [voidUnits, removeFire_eq]

theorem voidUnits_uplink :
    (voidUnits i s).uplink = (framesAtVoid i (removeTriggers i.tag i.bank (updItem i.tag Item.voided s))).uplink := by
  rw [voidUnits, removeFire_eq]

@[simp] theorem onEach_getElem {α β : Type} (f : α → β) (v : Vector α 8) (st : Station) : (onEach f v)[st] = f v[st] := by
  simp [onEach]

theorem headStays_voidUnits (stays : headStays s) : headStays (voidUnits i s) := by
  intro j head
  rw [voidUnits_queue, updItem, List.head?_map] at head
  obtain ⟨k, first, rfl⟩ := Option.map_eq_some_iff.mp head
  have plan (n : BankName) : planOf n (voidUnits i s) = planOf n s := by
    simp only [planOf, bankOf, voidUnits_plans]
  rw [voidUnits_pos, plan]
  split
  · exact stays k first
  · exact stays k first

end

/-- The transmissions on a frame are marked for abort, and a region's is as it was (R132). -/
structure MarkedOn (id : FrameId) (u v : Uplink) : Prop where
  deadline : ∀ x, u.deadline = some x → x.frame = id → v.deadline = some { x with abort := true }
  background : ∀ x, u.background = some x → x.frame = id → v.background = some { x with abort := true }
  region : v.region = u.region

/-- The transmissions on a frame are as they were. -/
structure UnmarkedOn (id : FrameId) (u v : Uplink) : Prop where
  deadline : ∀ x, u.deadline = some x → x.frame = id → v.deadline = some x
  background : ∀ x, u.background = some x → x.frame = id → v.background = some x
  region : v.region = u.region

section

variable {i : Item} {st : Station} {id : FrameId} {s : State}

/-- One station of the walk of R14. -/
def frameAtVoid (i : Item) (t : State) (st : Station) : State :=
  match references i st t with
  | some id => updFrame id (fun r => { r with cls := .done }) (markAbort id t)
  | none => t

theorem framesAtVoid_eq (i : Item) (s : State) : framesAtVoid i s = allStations.foldl (frameAtVoid i) s :=
  rfl

theorem frameAtVoid_of_some (refers : references i st s = some id) :
    frameAtVoid i s st = updFrame id (fun r => { r with cls := .done }) (markAbort id s) := by
  rw [frameAtVoid, refers]

/-- A station that references another frame or none leaves a frame and the transmissions on it alone. -/
theorem frameAtVoid_of_other (other : references i st s ≠ some id) : frameOf id (frameAtVoid i s st) = frameOf id s
    ∧ (∀ x, s.uplink.deadline = some x → x.frame = id → (frameAtVoid i s st).uplink.deadline = some x)
    ∧ (∀ x, s.uplink.background = some x → x.frame = id → (frameAtVoid i s st).uplink.background = some x)
    ∧ (frameAtVoid i s st).uplink.region = s.uplink.region := by
  unfold frameAtVoid
  split
  next k refers =>
    have apart : id ≠ k := fun same => other (same ▸ refers)
    refine ⟨(frameOf_updFrame_other _ _ apart).trans rfl, fun x open_ on => ?_, fun x open_ on => ?_, by simp [markAbort]⟩
    · simp [markAbort, open_, on, apart]
    · simp [markAbort, open_, on, apart]
  next => exact ⟨rfl, fun _ open_ _ => open_, fun _ open_ _ => open_, rfl⟩

/-- A frame of the item becomes DONE, or is freed, and the transmissions on it are marked (R14, R112, R132). -/
theorem framesAtVoid_of_references (refers : references i st s = some id) :
    frameOf id (framesAtVoid i s) = settled { frameOf id s with cls := .done } ∧ MarkedOn id s.uplink (framesAtVoid i s).uplink := by
  have own := (references_eq_some_iff.mp refers).2.2.2.2
  have others {t : State} {b : Station} (apart : b ≠ st) (same : (frameOf id t).state ≠ .free → (frameOf id t).station = st) :
      references i b t ≠ some id := fun h => by
    obtain ⟨-, used, -, -, station⟩ := references_eq_some_iff.mp h
    exact apart (station.symm.trans (same used))
  rw [framesAtVoid_eq]
  refine foldl_of_visit (P := fun t => frameOf id t = frameOf id s ∧ UnmarkedOn id s.uplink t.uplink)
    (Q := fun t => frameOf id t = settled { frameOf id s with cls := .done } ∧ MarkedOn id s.uplink t.uplink)
    (fun t b apart p => ?before) (fun t p => ?visit) (fun t b apart q => ?behind) (mem_allStations st) nodup_allStations
    ⟨rfl, ⟨fun _ open_ _ => open_, fun _ open_ _ => open_, rfl⟩⟩
  case before =>
    obtain ⟨record, marks⟩ := p
    obtain ⟨same, deadline, background, region⟩ := frameAtVoid_of_other (others apart fun _ => by rw [record]; exact own)
    exact ⟨same.trans record, fun x open_ on => deadline x (marks.deadline x open_ on) on,
      fun x open_ on => background x (marks.background x open_ on) on, region.trans marks.region⟩
  case visit =>
    obtain ⟨record, marks⟩ := p
    have refers : references i st t = some id := references_eq_some_iff.mpr (by
      rw [record]
      exact references_eq_some_iff.mp refers)
    rw [frameAtVoid_of_some refers, frameOf_updFrame_eq_settled]
    refine ⟨?_, fun x open_ on => ?_, fun x open_ on => ?_, by simpa [markAbort] using marks.region⟩
    · rw [← record]
      rfl
    · simp [markAbort, marks.deadline x open_ on, on]
    · simp [markAbort, marks.background x open_ on, on]
  case behind =>
    obtain ⟨record, marks⟩ := q
    obtain ⟨same, deadline, background, region⟩ := frameAtVoid_of_other (others apart fun used => by
      rw [record] at used ⊢
      rw [station_settled_of_used used]
      exact own)
    exact ⟨same.trans record, fun x open_ on => deadline _ (marks.deadline x open_ on) on,
      fun x open_ on => background _ (marks.background x open_ on) on, region.trans marks.region⟩

theorem removeFire_gates_of_reject {c : Cause} (decided : i.decision = some { action := .reject, cause := c }) :
    (removeFire i s).gates = { s.gates with reject.fires := s.gates.reject.fires.filter fun f => f.tag != i.tag } := by
  simp [removeFire, decided, Action.gate?, updGate, GateState.dropFire]

theorem removeFire_gates_of_rework {c : Cause} (decided : i.decision = some { action := .rework, cause := c }) :
    (removeFire i s).gates = { s.gates with rework.fires := s.gates.rework.fires.filter fun f => f.tag != i.tag } := by
  simp [removeFire, decided, Action.gate?, updGate, GateState.dropFire]

/-- A VOID ITEM of an item that is not past its fire is a void of that item, answered with its phase. -/
theorem exec_voidItem_of_undecided {mode : Byte} {n : Word16} {d : Nat} (free : busy s = false)
    (found : address mode n s = .found d i) (phase : i.phase = .entered ∨ i.phase = .complete ∨ i.phase = .decided) :
    exec (.voidItem mode n) s = .next (holdAnswer 9 (voidRecord i (sendZeros 5 s), .ok, [i.phase.code])) := by
  rw [exec_voidItem_of_free mode n free, answerVoidItem_of_undecided (s := sendZeros 5 s) found phase]

end

end Sys2Proof.Machine

open Sys2Proof Sys2Proof.Machine Sys2Proof.Safety

/-- Settles O20: a tag finds the one record that carries it, a depth the record that stands there. -/
theorem addressFindsTheRecord : Obligations.AddressFindsTheRecord := by
  unfold Obligations.AddressFindsTheRecord
  refine fun n s distinct => ⟨fun d i stands tag => ?tag, fun inRange missing => ?noTag, fun beyond => ?tagBeyond,
    fun i inRange stands => ?depth, fun inRange short => ?noDepth, fun beyond => ?depthBeyond, fun m beyond => ?mode⟩
  case tag =>
    have inRange : n.toNat ≤ 1023 := tag ▸ Nat.le_of_lt_succ i.tag.isLt
    simp [address, inRange, findTag_of_getElem? distinct stands tag]
  case noTag => simp [address, inRange, findTag_of_missing missing]
  case tagBeyond => simp [address, Nat.not_le.mpr beyond]
  case depth => simp [address, inRange, findDepth, stands]
  case noDepth => simp [address, inRange, findDepth, List.getElem?_eq_none short]
  case depthBeyond => simp [address, Nat.not_le.mpr beyond]
  case mode =>
    have notTag : m ≠ 0 := by rintro rfl; simp at beyond
    have notDepth : m ≠ 1 := by rintro rfl; simp at beyond
    rw [address, if_neg notTag, if_neg notDepth]

/-- Settles O21: both masters' requests are the owner's one answer, the message of 12.5 on the record addressed. -/
theorem itemViewIsTheSameForBothMasters : Obligations.ItemViewIsTheSameForBothMasters := by
  unfold Obligations.ItemViewIsTheSameForBothMasters
  refine fun number mode n s => ⟨fun bad => ?outOfRange, fun missing => ?noItem, fun d i found => ?found⟩
  case outOfRange =>
    exact ⟨fun free => exec_readItem_of_answer free (answerItemView_of_outOfRange (s := sendZeros 5 s) bad),
      fun up whole => exec_queryItem_of_answer up whole (answerItemView_of_outOfRange (s := heard s) bad)⟩
  case noItem =>
    exact ⟨fun free => exec_readItem_of_answer free (answerItemView_of_noItem (s := sendZeros 5 s) missing),
      fun up whole => exec_queryItem_of_answer up whole (answerItemView_of_noItem (s := heard s) missing)⟩
  case found =>
    refine ⟨reportOn .view i false d s, rfl, rfl, rfl, rfl, rfl, rfl, rfl, rfl, rfl, rfl, rfl, fun st => ⟨?_, ?_⟩,
      fun free => exec_readItem_of_answer free (answerItemView_of_found (s := sendZeros 5 s) found),
      fun up whole => exec_queryItem_of_answer up whole (answerItemView_of_found (s := heard s) found)⟩
    · simp [reportOn, stationEntries]
    · exact stationEntries_present_iff i st

/-- Settles O22: each phase is one case of the owner's answer. -/
theorem voidItemAnswersByPhase : Obligations.VoidItemAnswersByPhase := by
  unfold Obligations.VoidItemAnswersByPhase
  intro mode n s free
  rw [exec_voidItem_of_free mode n free]
  refine ⟨fun bad => ?_, fun missing => ?_, fun d i found => ⟨fun phase => ?_, fun phase => ?_, fun phase => ?_⟩⟩
  · rw [answerVoidItem_of_outOfRange (s := sendZeros 5 s) bad]; rfl
  · rw [answerVoidItem_of_noItem (s := sendZeros 5 s) missing]; rfl
  · rw [answerVoidItem_of_tooLate (s := sendZeros 5 s) found phase]; rfl
  · rw [answerVoidItem_of_void (s := sendZeros 5 s) found phase]; rfl
  · exact ⟨_, rfl, by rw [answerVoidItem_of_undecided (s := sendZeros 5 s) found phase]; rfl⟩

/-- Settles O23: a void is its work on each unit, and then an examination of the head that retires nothing; the walk over the
item's frames meets each frame once. -/
theorem voidReachesEveryUnit : Obligations.VoidReachesEveryUnit := by
  unfold Obligations.VoidReachesEveryUnit
  refine ⟨fun mode n d i s t free distinct found phase stays done => ?units, fun mode n d i s t free found phase done => ?gates,
    fun mode n d i s t st id free found phase done refers => ?frames⟩
  case units =>
    rw [exec_voidItem_of_undecided free found phase, Host.Outcome.next.injEq, voidRecord_eq,
      examineHead_of_headStays _ (headStays_voidUnits i (sendZeros 5 s) stays)] at done
    subst done
    refine ⟨⟨i.voided, ?_, rfl, fun st => ?_⟩, fun st => ?_, ?_, ?_, ?_, ?_, ?_, ?_, ?_⟩
    · simp only [holdAnswer, voidUnits_queue]
      exact map_tag_eq_set Item.voided distinct (getElem?_of_address found)
    · exact onEach_getElem _ _ st
    · simp only [holdAnswer, voidUnits_trig, onEach_getElem]
      exact ⟨rfl, rfl, rfl⟩
    · simp [holdAnswer, sendZeros]
    · simp [holdAnswer, sendZeros]
    · simp [holdAnswer, sendZeros]
    · simp [holdAnswer, sendZeros]
    · simp [holdAnswer, sendZeros]
    · simp [holdAnswer, sendZeros]
    · simp [holdAnswer, sendZeros]
  case gates =>
    rw [exec_voidItem_of_undecided free found (.inr (.inr phase)), Host.Outcome.next.injEq, voidRecord_eq] at done
    subst done
    simp only [holdAnswer, examineHead_gates, voidUnits_gates]
    exact ⟨fun c decided => removeFire_gates_of_reject decided, fun c decided => removeFire_gates_of_rework decided⟩
  case frames =>
    rw [exec_voidItem_of_undecided free found phase, Host.Outcome.next.injEq, voidRecord_eq] at done
    subst done
    intro after
    obtain ⟨record, marks⟩ := framesAtVoid_of_references
      (s := removeTriggers i.tag i.bank (updItem i.tag Item.voided (sendZeros 5 s))) refers
    have store := voidUnits_store i (sendZeros 5 s)
    simp only [holdAnswer, examineHead_deadline, examineHead_background, examineHead_region, voidUnits_uplink]
    refine ⟨?_, marks.deadline, marks.background, marks.region⟩
    simp only [frameOf, examineHead_store, store]
    refine record.trans ?_
    simp only [settled, unheld, true_and]
    rfl
end

section
/-! The decision of an item (chapter 4): record, counts, flags and report (O27), triggers, frames and gates (O28). -/

namespace Sys2Proof.Machine

open Sys2Proof.Safety

/-! ## The tables of R61 and R66 -/

theorem Vector.any_toList_iff_exists {α : Type} (p : α → Bool) (v : Vector α 8) :
    v.toList.any p = true ↔ ∃ st : Station, p v[st] = true := by
  simp [Vector.any_iff_exists, Fin.exists_iff]

theorem faulty_or_unresolved_iff (o : StationOutcome) :
    (o.faulty || o.unresolved) = true ↔ o.code ∈ [(1 : Byte), 2, 4, 6, 7, 8, 9] := by
  cases o <;> simp [StationOutcome.faulty, StationOutcome.unresolved, StationOutcome.code]

theorem faulty_iff (o : StationOutcome) : o.faulty = true ↔ o.code ∈ [(4 : Byte), 6, 7, 8, 9] := by
  cases o <;> simp [StationOutcome.faulty, StationOutcome.code]

theorem judge_eq (i : Item) (s : State) : judge i s = tableR61 i s := by
  have fault : i.hasFault = true ↔ ∃ st : Station, i.stations[st].code ∈ [(1 : Byte), 2, 4, 6, 7, 8, 9] :=
    (Vector.any_toList_iff_exists _ _).trans (exists_congr fun st => faulty_or_unresolved_iff _)
  have link : s.link.state ≠ .up ↔ s.link.state = .aligning := by cases s.link.state <;> simp
  simp only [judge, tableR61, fault, link]
  cases i.force with
  | some a => rfl
  | none => cases i.verdict <;> rfl

theorem decidedBy_eq (d : Decision) (i : Item) : i.decidedBy d = decidedRecord i d := by
  have stations : onEach StationOutcome.atDecision i.stations
      = i.stations.map fun o => if o = .waiting ∨ o = .triggered then .missing else o := by
    ext k hk
    simp [onEach, StationOutcome.atDecision, StationOutcome.unresolved]
  rw [Item.decidedBy, stations, decidedRecord]

theorem isDefault_iff (c : Cause) : c.isDefault = true ↔ c ≠ .forced ∧ c ≠ .verdict := by
  cases c <;> simp [Cause.isDefault]

theorem autoKeeps_iff (i : Item) (d : Decision) (s : State) : autoKeeps i d s = true ↔ tableR66 i d s := by
  unfold autoKeeps tableR66
  cases s.port.settings.autoKeep with
  | none => simp
  | onReject => simp
  | onDefault => simpa using isDefault_iff d.cause
  | onFault => simpa using (Vector.any_toList_iff_exists _ _).trans (exists_congr fun st => faulty_iff _)

/-! ## Station faults counted in a row (R63) -/

section

variable (s : State)

theorem missingAtDecision_eq (i : Item) : missingAtDecision i s = { s with port := (missingAtDecision i s).port } := by
  refine List.foldlRecOn (motive := fun t : State => t = { s with port := t.port }) allStations _ rfl fun t same st _ => ?_
  split
  · rw [same]
    rfl
  · exact same

theorem stationFault_eq : stationFault s = noted 10 5 s :=
  bump_raise_eq s .stationFault .stationFaults

theorem oneMore_toNat (v : Word16) : (oneMore v).toNat = min 65535 (v.toNat + 1) := by
  rw [← countUp_eq, countUp_toNat]

/-- Station faults raised at the elements of a list that meet a test: one flag, and one count each (R183, R185). -/
theorem foldl_stationFault {α : Type} (p : α → Bool) (l : List α) : ∃ v : Word16,
    v.toNat = min 65535 (s.port.counts[(5 : Fin 14)].toNat + l.countP p)
      ∧ l.foldl (fun t a => if p a then stationFault t else t) s = { s with
          port.flags := if l.countP p = 0 then s.port.flags else s.port.flags ||| (1#16 <<< 10)
          port.counts := s.port.counts.set 5 v } := by
  induction l generalizing s with
  | nil =>
    have := s.port.counts[(5 : Fin 14)].isLt
    refine ⟨s.port.counts[(5 : Fin 14)], ?_, ?_⟩
    · rw [List.countP_nil]
      omega
    · simp
  | cons a l ih =>
    rw [List.foldl_cons, List.countP_cons]
    split
    next =>
      obtain ⟨v, value, result⟩ := ih (stationFault s)
      rw [stationFault_eq] at value result ⊢
      have up : (noted 10 5 s).port.counts[(5 : Fin 14)] = oneMore s.port.counts[(5 : Fin 14)] := by
        simp [noted]
      rw [up, oneMore_toNat] at value
      refine ⟨v, by omega, result.trans ?_⟩
      simp [noted, BitVec.or_assoc]
    next => simpa using ih s

theorem countP_allStations (p : StationOutcome → Bool) (i : Item) :
    (allStations.countP fun st => p i.stations[st]) = i.stations.toList.countP p := by
  have stations : i.stations.toList = allStations.map fun st => i.stations[st] := by
    rw [allStations_eq_finRange]
    refine List.ext_getElem (by simp) fun n _ _ => by simp
  rw [stations, List.countP_map]
  rfl

theorem countP_unresolved (i : Item) : (allStations.countP fun st => i.stations[st].unresolved) = unresolvedStations i :=
  countP_allStations StationOutcome.unresolved i

theorem missingAtDecision_port (i : Item) :
    (missingAtDecision i s).port.counts[(5 : Fin 14)].toNat
        = min 65535 (s.port.counts[(5 : Fin 14)].toNat + unresolvedStations i)
      ∧ (missingAtDecision i s).port.counts[(8 : Fin 14)] = s.port.counts[(8 : Fin 14)]
      ∧ (missingAtDecision i s).port.flags.getLsbD 8 = s.port.flags.getLsbD 8
      ∧ ((missingAtDecision i s).port.flags.getLsbD 10 = true ↔ s.port.flags.getLsbD 10 = true ∨ 0 < unresolvedStations i) := by
  obtain ⟨v, value, result⟩ := foldl_stationFault s (fun st => i.stations[st].unresolved) allStations
  rw [countP_unresolved] at value result
  have port : missingAtDecision i s = _ := result
  rw [port]
  refine ⟨by simpa using value, by simp, ?_, ?_⟩
  · dsimp only
    split <;> simp
  · dsimp only
    split
    next zero => simp [zero]
    next some => simp [Nat.pos_of_ne_zero some]

theorem noteDefault_eq (d : Decision) :
    noteDefault d s = if d.cause ≠ .forced ∧ d.cause ≠ .verdict then noted 8 8 s else s := by
  simp only [noteDefault, isDefault_iff, bump_raise_eq]
  rfl

/-! ## What a decision does to the units, the gates and the head apart (R61 to R67) -/

/-- The record is decided and the units have taken note; the report is not offered yet. -/
def decidedUnits (i : Item) (s : State) : State :=
  framesAtDecision (i.decidedBy (judge i s)) (autoKeeps (i.decidedBy (judge i s)) (judge i s) s)
    (noteDefault (judge i s) (updItem i.tag (Item.decidedBy (judge i s)) (removeTriggers i.tag i.bank (missingAtDecision i s))))

/-- The decision report (R67). -/
def decisionReport (i : Item) (s : State) : Report :=
  reportOn .decision (i.decidedBy (judge i s)) (autoKeeps (i.decidedBy (judge i s)) (judge i s) s) 0 (decidedUnits i s)

theorem decide_eq (i : Item) :
    decide_ i s = carryOut (i.decidedBy (judge i s)) (judge i s) (offerReport (decisionReport i s) (decidedUnits i s)) :=
  rfl

theorem framesAtDecision_keeps {β : Type} (g : State → β) (upd : ∀ t id f, g (updFrame id f t) = g t) (i : Item) (kept : Bool) :
    g (framesAtDecision i kept s) = g s := by
  refine foldl_keeps s g (fun t st => ?_) _
  split
  · rw [upd]
  · rfl

theorem noteDefault_keeps {β : Type} (g : State → β) (note : ∀ t, g (noted 8 8 t) = g t) (d : Decision) :
    g (noteDefault d s) = g s := by
  rw [noteDefault_eq]
  split
  · rw [note]
  · rfl

variable (i : Item)

theorem decidedUnits_keeps {β : Type} (g : State → β) (upd : ∀ t id f, g (updFrame id f t) = g t)
    (note : ∀ t, g (noted 8 8 t) = g t) : g (decidedUnits i s)
      = g (updItem i.tag (Item.decidedBy (judge i s)) (removeTriggers i.tag i.bank (missingAtDecision i s))) := by
  rw [decidedUnits, framesAtDecision_keeps _ g upd, noteDefault_keeps _ g note]

@[simp] theorem decidedUnits_pos : (decidedUnits i s).pos = s.pos := by
  rw [decidedUnits_keeps s i State.pos (by simp) (fun _ => rfl), missingAtDecision_eq]
  rfl

@[simp] theorem decidedUnits_plans : (decidedUnits i s).plans = s.plans := by
  rw [decidedUnits_keeps s i State.plans (by simp) (fun _ => rfl), missingAtDecision_eq]
  rfl

@[simp] theorem decidedUnits_link : (decidedUnits i s).link = s.link := by
  rw [decidedUnits_keeps s i State.link (by simp) (fun _ => rfl), missingAtDecision_eq]
  rfl

@[simp] theorem decidedUnits_gates : (decidedUnits i s).gates = s.gates := by
  rw [decidedUnits_keeps s i State.gates (by simp) (fun _ => rfl), missingAtDecision_eq]
  rfl

@[simp] theorem decidedUnits_reports : (decidedUnits i s).uplink.reports = s.uplink.reports := by
  rw [decidedUnits_keeps s i (fun t => t.uplink.reports) (by simp) (fun _ => rfl), missingAtDecision_eq]
  rfl

theorem decidedUnits_queue : (decidedUnits i s).queue = (updItem i.tag (Item.decidedBy (judge i s)) s).queue := by
  rw [decidedUnits_keeps s i State.queue (by simp) (fun _ => rfl), missingAtDecision_eq]
  rfl

theorem decidedUnits_trig : (decidedUnits i s).trig = onEach (StationTriggers.dropItem i.tag i.bank) s.trig := by
  rw [decidedUnits_keeps s i State.trig (by simp) (fun _ => rfl), missingAtDecision_eq]
  rfl

theorem decidedUnits_port : (decidedUnits i s).port = (noteDefault (judge i s) (missingAtDecision i s)).port := by
  rw [decidedUnits, framesAtDecision_keeps _ State.port (by simp), noteDefault_eq, noteDefault_eq]
  split <;> rfl

theorem decidedUnits_store : (decidedUnits i s).store
    = (framesAtDecision (i.decidedBy (judge i s)) (autoKeeps (i.decidedBy (judge i s)) (judge i s) s)
        (noteDefault (judge i s) (updItem i.tag (Item.decidedBy (judge i s)) (removeTriggers i.tag i.bank (missingAtDecision i s))))).store :=
  rfl

/-- What neither a gate's change nor a retirement touches, the handing over of a decision leaves as it was. -/
theorem carryOut_keeps {β : Type} (g : State → β) (gate : ∀ t h f, g (updGate h f t) = g t)
    (head : ∀ t, g (Machine.examineHead t) = g t) (d : Decision) : g (carryOut i d s) = g s := by
  unfold carryOut
  split
  · rw [placeFire, gate]
  · rw [head]

/-- Where the head stays, the handing over of a decision changes the gates alone. -/
theorem carryOut_of_stays (d : Decision) (stays : headStays s) : carryOut i d s = { s with gates := (carryOut i d s).gates } := by
  unfold carryOut
  split
  · rw [placeFire]
    cases ‹Gate› <;> rfl
  · rw [examineHead_of_headStays s stays]

end

/-- The head stays where position and plans are as they were and no record has another identity. -/
theorem headStays_of_updItem {s t : State} {tag : Tag} {f : Item → Item} (same : ∀ j, identity (f j) = identity j)
    (queue : t.queue = (updItem tag f s).queue) (pos : t.pos = s.pos) (plans : t.plans = s.plans) (stays : headStays s) :
    headStays t := by
  intro j head
  rw [queue, updItem, List.head?_map] at head
  obtain ⟨k, first, rfl⟩ := Option.map_eq_some_iff.mp head
  have plan (n : BankName) : planOf n t = planOf n s := by
    simp only [planOf, bankOf, plans]
  have kept := stays k first
  rw [pos, plan]
  split
  · have bank : (f k).bank = k.bank := congrArg (fun x => x.2.1) (same k)
    have entry : (f k).entry = k.entry := congrArg (fun x => x.2.2) (same k)
    rwa [bank, entry]
  · exact kept

/-! ## The item's frames at its decision (R65, R66, R112) -/

theorem frameId?_atDecision (o : StationOutcome) : o.atDecision.frameId? = o.frameId? := by
  cases o <;> rfl

section

variable {i : Item} {d : Decision} {kept : Bool} {st : Station} {id : FrameId} {s : State}

theorem frameId?_decidedBy : (i.decidedBy d).stations[st].frameId? = i.stations[st].frameId? := by
  rw [Item.decidedBy, onEach_getElem, frameId?_atDecision]

theorem references_decidedBy : references (i.decidedBy d) st s = references i st s := by
  rw [references, frameId?_decidedBy]
  rfl

/-- One station of the walk of R65. -/
def frameAtDecision (i : Item) (kept : Bool) (t : State) (st : Station) : State :=
  match references i st t with
  | some id => updFrame id (FrameRecord.atDecision kept) t
  | none => t

theorem framesAtDecision_eq (i : Item) (kept : Bool) (s : State) :
    framesAtDecision i kept s = allStations.foldl (frameAtDecision i kept) s :=
  rfl

theorem frameAtDecision_of_some (refers : references i st s = some id) :
    frameAtDecision i kept s st = updFrame id (FrameRecord.atDecision kept) s := by
  rw [frameAtDecision, refers]

theorem frameOf_frameAtDecision_of_other (other : references i st s ≠ some id) :
    frameOf id (frameAtDecision i kept s st) = frameOf id s := by
  unfold frameAtDecision
  split
  next k refers => exact frameOf_updFrame_other _ _ fun same => other (same ▸ refers)
  next => rfl

/-- A frame of the item takes its class by R65's table and its mark by R66, or is freed. -/
theorem frameOf_framesAtDecision (refers : references i st s = some id) :
    frameOf id (framesAtDecision i kept s) = settled ((frameOf id s).atDecision kept) := by
  have own := (references_eq_some_iff.mp refers).2.2.2.2
  have others {t : State} {b : Station} (apart : b ≠ st) (same : (frameOf id t).state ≠ .free → (frameOf id t).station = st) :
      references i b t ≠ some id := fun h => by
    obtain ⟨-, used, -, -, station⟩ := references_eq_some_iff.mp h
    exact apart (station.symm.trans (same used))
  rw [framesAtDecision_eq]
  refine foldl_of_visit (P := fun t => frameOf id t = frameOf id s)
    (Q := fun t => frameOf id t = settled ((frameOf id s).atDecision kept))
    (fun t b apart record => ?before) (fun t record => ?visit) (fun t b apart record => ?behind) (mem_allStations st)
    nodup_allStations rfl
  case before =>
    rw [frameOf_frameAtDecision_of_other (others apart fun _ => by rw [record]; exact own), record]
  case visit =>
    have refers : references i st t = some id := references_eq_some_iff.mpr (by
      rw [record]
      exact references_eq_some_iff.mp refers)
    rw [frameAtDecision_of_some refers, frameOf_updFrame_eq_settled, record]
  case behind =>
    rw [frameOf_frameAtDecision_of_other (others apart fun used => ?_), record]
    rw [record] at used ⊢
    rw [station_settled_of_used used]
    exact own

/-- A record that is in use after the walk belongs to the item and station that it belonged to before. -/
theorem belongs_framesAtDecision (used : (frameOf id (framesAtDecision i kept s)).state ≠ .free) :
    (frameOf id s).state ≠ .free
      ∧ (frameOf id (framesAtDecision i kept s)).tag = (frameOf id s).tag
      ∧ (frameOf id (framesAtDecision i kept s)).bank = (frameOf id s).bank
      ∧ (frameOf id (framesAtDecision i kept s)).station = (frameOf id s).station := by
  revert used
  rw [framesAtDecision_eq]
  refine List.foldlRecOn (motive := fun t => (frameOf id t).state ≠ .free → (frameOf id s).state ≠ .free
      ∧ (frameOf id t).tag = (frameOf id s).tag ∧ (frameOf id t).bank = (frameOf id s).bank
      ∧ (frameOf id t).station = (frameOf id s).station) allStations _ (fun used => ⟨used, rfl, rfl, rfl⟩)
    fun t belongs st _ used => ?_
  by_cases refers : references i st t = some id
  · rw [frameAtDecision_of_some refers, frameOf_updFrame_eq_settled] at used ⊢
    have kept := station_settled_of_used used
    rw [kept] at used ⊢
    exact belongs used
  · rw [frameOf_frameAtDecision_of_other refers] at used ⊢
    exact belongs used

end

/-! ## A fire in its place (R147) -/

theorem insertFire_eq (f : Fire) (l : List Fire) : ∃ before after : List Fire, l = before ++ after
    ∧ insertFire f l = before ++ f :: after ∧ (∀ e ∈ before, (e.start - f.start).toInt ≤ 0)
    ∧ ∀ e, after.head? = some e → 0 < (e.start - f.start).toInt := by
  induction l with
  | nil => exact ⟨[], [], rfl, rfl, by simp, by simp⟩
  | cons e rest ih =>
    by_cases beyond : 0 < signedDiff e.start f.start
    · refine ⟨[], e :: rest, rfl, by rw [insertFire, if_pos beyond]; rfl, by simp, fun x first => ?_⟩
      obtain rfl : e = x := by simpa using first
      exact beyond
    · obtain ⟨before, after, split, placed, low, high⟩ := ih
      refine ⟨e :: before, after, by rw [split, List.cons_append], by rw [insertFire, if_neg beyond, placed]; rfl, ?_, high⟩
      rw [List.forall_mem_cons]
      exact ⟨not_lt.mp beyond, low⟩

/-! ## The examination of one item (R60) -/

section

variable {tag : Tag} {i : Item} {s : State}

theorem exec_decisionExamination_of_due (found : itemOf? tag s = some i) (due : dueForDecision i s) :
    exec (.decisionExaminationAtCreation tag) s = .next (decide_ i s) := by
  simp only [exec, execDecisionExaminationAtCreation, examineDecision, found, decisionDue_iff.mpr due, if_true]

theorem exec_decisionExamination_of_not_due (none : ∀ i, itemOf? tag s = some i → ¬ dueForDecision i s) :
    exec (.decisionExaminationAtCreation tag) s = .next s := by
  simp only [exec, execDecisionExaminationAtCreation, examineDecision]
  split
  next i found => rw [Bool.eq_false_iff.mpr (mt decisionDue_iff.mp (none i found)), if_neg Bool.false_ne_true]
  next => rfl

theorem decisionReport_present_iff (st : Station) : (decisionReport i s).stations[st].present = true
    ↔ ∃ id, references i st s = some id ∧ (frameOf id (decidedUnits i s)).state ≠ .free := by
  refine (stationEntries_present_iff _ st).trans (exists_congr fun id => ?_)
  rw [references_eq_some_iff, frameId?_decidedBy]
  have before : frameOf id (noteDefault (judge i s) (updItem i.tag (Item.decidedBy (judge i s))
      (removeTriggers i.tag i.bank (missingAtDecision i s)))) = frameOf id s := by
    rw [noteDefault_keeps _ (frameOf id) (fun _ => rfl), missingAtDecision_eq]
    rfl
  have belongs (used : (frameOf id (decidedUnits i s)).state ≠ .free) := belongs_framesAtDecision used
  rw [before] at belongs
  constructor
  · rintro ⟨outcome, used, tag, bank, station⟩
    obtain ⟨usedBefore, sameTag, sameBank, sameStation⟩ := belongs used
    exact ⟨⟨outcome, usedBefore, sameTag ▸ tag, sameBank ▸ bank, sameStation ▸ station⟩, used⟩
  · rintro ⟨⟨outcome, -, tag, bank, station⟩, used⟩
    obtain ⟨-, sameTag, sameBank, sameStation⟩ := belongs used
    exact ⟨outcome, used, sameTag.trans tag, sameBank.trans bank, sameStation.trans station⟩

/-- What an offered report leaves of the flags and counts that a decision writes. -/
theorem offerReport_port (r : Report) (s : State) :
    (offerReport r s).port.counts[(5 : Fin 14)] = s.port.counts[(5 : Fin 14)]
      ∧ (offerReport r s).port.counts[(8 : Fin 14)] = s.port.counts[(8 : Fin 14)]
      ∧ (offerReport r s).port.flags.getLsbD 8 = s.port.flags.getLsbD 8
      ∧ (offerReport r s).port.flags.getLsbD 10 = s.port.flags.getLsbD 10 := by
  rw [offerReport_eq]
  split
  · exact ⟨rfl, rfl, rfl, rfl⟩
  · simp [noted]

theorem noteDefault_port (d : Decision) (s : State) :
    (noteDefault d s).port.counts[(5 : Fin 14)] = s.port.counts[(5 : Fin 14)]
      ∧ ((noteDefault d s).port.counts[(8 : Fin 14)] = if d.cause = .forced ∨ d.cause = .verdict then s.port.counts[(8 : Fin 14)]
          else oneMore s.port.counts[(8 : Fin 14)])
      ∧ ((noteDefault d s).port.flags.getLsbD 8 = true
          ↔ s.port.flags.getLsbD 8 = true ∨ (d.cause ≠ .forced ∧ d.cause ≠ .verdict))
      ∧ (noteDefault d s).port.flags.getLsbD 10 = s.port.flags.getLsbD 10 := by
  rw [noteDefault_eq]
  by_cases default_ : d.cause ≠ .forced ∧ d.cause ≠ .verdict
  · rw [if_pos default_, if_neg (not_or.mpr default_)]
    simp [noted, default_]
  · rw [if_neg default_, if_pos (by tauto)]
    exact ⟨rfl, rfl, by tauto, rfl⟩

end

end Sys2Proof.Machine

open Sys2Proof Sys2Proof.Machine Sys2Proof.Safety

/-- Settles O27: the decision is the table's, its record the decided one; faults and default are counted one by one, and the
report is the message of 12.5 on the decided record with the frames as the decision leaves them. -/
theorem decisionFollowsTheTable : Obligations.DecisionFollowsTheTable := by
  unfold Obligations.DecisionFollowsTheTable
  refine ⟨fun tag s none => exec_decisionExamination_of_not_due none, fun tag i s distinct found due stays => ?_⟩
  intro d
  obtain rfl := (mem_of_itemOf? found).2
  have judged : judge i s = d := judge_eq i s
  have decided : i.decidedBy (judge i s) = decidedRecord i d := by rw [judged, decidedBy_eq]
  have rest := carryOut_of_stays (offerReport (decisionReport i s) (decidedUnits i s)) (i.decidedBy (judge i s)) (judge i s)
    (headStays_of_updItem (tag := i.tag) (f := Item.decidedBy (judge i s)) (fun j => rfl) (by simp [decidedUnits_queue]) (by simp)
      (by simp) stays)
  refine ⟨decide_ i s, decisionReport i s, exec_decisionExamination_of_due found due, ?_⟩
  rw [decide_eq, rest]
  obtain ⟨faults, defaults, flag8, flag10⟩ := offerReport_port (decisionReport i s) (decidedUnits i s)
  rw [decidedUnits_port] at faults defaults flag8 flag10
  obtain ⟨noteFaults, noteDefaults, noteFlag8, noteFlag10⟩ := noteDefault_port (judge i s) (missingAtDecision i s)
  obtain ⟨missing, missingDefaults, missingFlag8, missingFlag10⟩ := missingAtDecision_port s i
  rw [judged] at faults defaults flag8 flag10 noteFaults noteDefaults noteFlag8 noteFlag10
  refine ⟨?_, ?_, by simp, by simp, by simp, ?_, ⟨rfl, rfl, rfl, rfl, ?_, rfl, rfl, ?_, ?_, ?_, ?_, fun st => ⟨?_, ?_⟩⟩,
    ?_, ?_, ?_, ?_⟩
  · simp only [offerReport_queue, decidedUnits_queue, updItem, judged, decidedBy_eq]
    refine List.map_congr_left fun j member => ite_congr rfl (fun same => ?_) fun _ => rfl
    rw [List.inj_on_of_nodup_map distinct member (mem_of_itemOf? found).1 same]
  · simp [decidedUnits_queue]
  · simp [offerReport_reports]
  · exact congrArg some judged
  · rw [← decided, ← judged]
    exact autoKeeps_iff _ _ s
  · simp [decisionReport, reportOn]
  · simp [decisionReport, reportOn]
  · simp [decisionReport, reportOn]
  · simp [decisionReport, reportOn, stationEntries, decided]
  · simpa [frameOf] using decisionReport_present_iff (s := s) (i := i) st
  · rw [faults, noteFaults, missing]
  · rw [defaults, noteDefaults, missingDefaults]
  · rw [flag8, noteFlag8, missingFlag8]
  · rw [flag10, noteFlag10, missingFlag10]

/-- Settles O28: the decision's work on the triggers and on each frame, and the one fire that it places. -/
theorem decisionReachesTheUnits : Obligations.DecisionReachesTheUnits := by
  unfold Obligations.DecisionReachesTheUnits
  refine ⟨fun tag i s t st found due done => ?triggers, fun tag i s t st id found due done refers => ?frames,
    fun tag i s t g found due action done => ?fire⟩
  case triggers =>
    obtain rfl := (mem_of_itemOf? found).2
    rw [exec_decisionExamination_of_due found due, Host.Outcome.next.injEq, decide_eq] at done
    subst done
    rw [carryOut_keeps _ _ State.trig (by simp) (by simp), offerReport_trig, decidedUnits_trig, onEach_getElem]
    rfl
  case frames =>
    intro d after written mark
    rw [exec_decisionExamination_of_due found due, Host.Outcome.next.injEq, decide_eq] at done
    subst done
    have before : frameOf id (noteDefault (judge i s) (updItem i.tag (Item.decidedBy (judge i s))
        (removeTriggers i.tag i.bank (missingAtDecision i s)))) = frameOf id s := by
      rw [noteDefault_keeps _ (frameOf id) (fun _ => rfl), missingAtDecision_eq]
      rfl
    have refers' : references (i.decidedBy (judge i s)) st (noteDefault (judge i s) (updItem i.tag (Item.decidedBy (judge i s))
        (removeTriggers i.tag i.bank (missingAtDecision i s)))) = some id := by
      rw [references_decidedBy]
      refine references_eq_some_iff.mpr ?_
      rw [before]
      exact references_eq_some_iff.mp refers
    have record := frameOf_framesAtDecision (kept := autoKeeps (i.decidedBy (judge i s)) (judge i s) s) refers'
    rw [before] at record
    have kept : after.k0 = ((frameOf id s).k0 || autoKeeps (i.decidedBy (judge i s)) (judge i s) s) := by
      rw [Bool.eq_iff_iff, mark, Bool.or_eq_true, autoKeeps_iff, judge_eq, decidedBy_eq]
    have same : (frameOf id s).atDecision (autoKeeps (i.decidedBy (judge i s)) (judge i s) s) = after := by
      rw [written, kept, FrameRecord.atDecision]
      cases (frameOf id s).cls <;> rfl
    rw [carryOut_keeps _ _ (frameOf id) (by simp [frameOf]) (by simp), frameOf, offerReport_store]
    refine record.trans ?_
    rw [same]
    rfl
  case fire =>
    obtain rfl := (mem_of_itemOf? found).2
    rw [exec_decisionExamination_of_due found due, Host.Outcome.next.injEq, decide_eq] at done
    rw [← judge_eq] at action
    have gate : (judge i s).action.gate? = some g := by rw [action]; cases g <;> rfl
    have plan (n : BankName) : planOf n (offerReport (decisionReport i s) (decidedUnits i s)) = planOf n s := by
      simp [planOf, bankOf]
    have old (h : Gate) : gateOf h (offerReport (decisionReport i s) (decidedUnits i s)) = gateOf h s := by
      cases h <;> simp [gateOf]
    intro p start
    obtain ⟨before, after, split, placed, low, high⟩ := insertFire_eq
      { tag := i.tag, start := start, stop := start + p.width.setWidth 32, status := .scheduled } (gateOf g s).fires
    have fire : fireOf g (i.decidedBy (judge i s)) (offerReport (decisionReport i s) (decidedUnits i s))
        = { tag := i.tag, start := start, stop := start + p.width.setWidth 32, status := .scheduled } := by
      rw [fireOf]
      simp only [plan, Item.decidedBy]
      cases g <;> rfl
    have handed : t = updGate g (fun x => { x with fires := insertFire (fireOf g (i.decidedBy (judge i s))
        (offerReport (decisionReport i s) (decidedUnits i s))) x.fires }) (offerReport (decisionReport i s) (decidedUnits i s)) := by
      rw [← done, carryOut, gate]
      rfl
    refine ⟨before, after, split, ?_, low, high, fun h other => ?_, ?_⟩
    · rw [handed, gateOf_updGate_same, old, fire, placed]
    · rw [handed, gateOf_updGate_other _ _ other, old]
    · simp [handed]
end

section
/-! The Trigger Unit (chapter 5): stations that fall due (O30), the end of a train (O31), camera timeouts and R11's phase
(O32). -/

namespace Sys2Proof.Machine

open Sys2Proof.Safety

/-! ## A station outcome that changes, and several that do (R11) -/

theorem unresolvedStations_eq_zero_iff {i : Item} : unresolvedStations i = 0 ↔ ∀ st : Station, i.stations[st].unresolved = false := by
  rw [← countP_unresolved, List.countP_eq_zero]
  simp only [mem_allStations, true_implies, Bool.not_eq_true]

theorem Item.unresolved_eq_false_iff {i : Item} : i.unresolved = false ↔ unresolvedStations i = 0 := by
  rw [unresolvedStations_eq_zero_iff, Item.unresolved, ← Bool.not_eq_true, Vector.any_toList_iff_exists, not_exists]
  simp only [Bool.not_eq_true]

theorem Item.stations_withStation (i : Item) (st k : Station) (o : StationOutcome) :
    (i.withStation st o).stations[k] = if k = st then o else i.stations[k] := by
  rw [Item.withStation_eq]
  simp only [Fin.getElem_fin, Vector.getElem_set, Fin.ext_iff, eq_comm]

/-- An ENTERED record goes to COMPLETE with its last unresolved station, and no other phase changes (R11). -/
theorem Item.phase_withStation (i : Item) (st : Station) (o : StationOutcome) : (i.withStation st o).phase =
    if i.phase = .entered ∧ unresolvedStations (i.withStation st o) = 0 then .complete else i.phase := by
  have same : unresolvedStations (i.withStation st o)
      = unresolvedStations { i with stations := i.stations.set st.val o st.isLt } := by
    rw [Item.withStation_eq]
    rfl
  simp only [same, ← Item.unresolved_eq_false_iff]
  simp only [Item.withStation, Bool.and_eq_true, decide_eq_true_eq, Bool.not_eq_true']
  split <;> rfl

/-- The stations of a list that meet a test take an outcome, one after the other. -/
def Item.withStations (o : StationOutcome) (hit : Station → Bool) (l : List Station) (i : Item) : Item :=
  l.foldl (fun r st => if hit st then r.withStation st o else r) i

section

variable {o : StationOutcome} {hit : Station → Bool} {l : List Station} (i : Item)

theorem Item.withStations_eq :
    i.withStations o hit l = { i with stations := (i.withStations o hit l).stations, phase := (i.withStations o hit l).phase } := by
  refine List.foldlRecOn (motive := fun r : Item => r = { i with stations := r.stations, phase := r.phase }) l _ rfl
    fun r same st _ => ?_
  split
  · rw [Item.withStation_eq, same]
  · exact same

theorem Item.stations_withStations (k : Station) :
    (i.withStations o hit l).stations[k] = if k ∈ l ∧ hit k = true then o else i.stations[k] := by
  induction l generalizing i with
  | nil => simp [Item.withStations]
  | cons b l ih =>
    show (Item.withStations o hit l _).stations[k] = _
    rw [ih]
    simp only [List.mem_cons]
    by_cases here : hit b = true
    · rw [if_pos here, Item.stations_withStation]
      by_cases same : k = b
      · subst same
        simp [here]
      · simp [same]
    · rw [if_neg here]
      by_cases same : k = b
      · subst same
        simp [here]
      · simp [same]

/-- R11 for outcomes that are resolved: with the last unresolved station an ENTERED record is COMPLETE. -/
theorem Item.phase_withStations (resolved : o.unresolved = false) : (i.withStations o hit l).phase =
    if (∃ st ∈ l, hit st = true) ∧ i.phase = .entered ∧ unresolvedStations (i.withStations o hit l) = 0 then .complete
    else i.phase := by
  induction l generalizing i with
  | nil => simp [Item.withStations]
  | cons b l ih =>
    have rest : Item.withStations o hit (b :: l) i = Item.withStations o hit l (if hit b then i.withStation b o else i) := rfl
    rw [rest, ih]
    by_cases here : hit b = true
    · have some : ∃ st ∈ b :: l, hit st = true := ⟨b, List.mem_cons_self, here⟩
      simp only [here, if_true, some, true_and]
      rw [Item.phase_withStation]
      by_cases entered : i.phase = .entered
      · by_cases last : unresolvedStations (i.withStation b o) = 0
        · have after : unresolvedStations ((i.withStation b o).withStations o hit l) = 0 := by
            rw [unresolvedStations_eq_zero_iff] at last ⊢
            intro st
            rw [Item.stations_withStations]
            split
            · exact resolved
            · exact last st
          simp [entered, last, after]
        · by_cases more : ∃ st ∈ l, hit st = true
          · simp [entered, last, more]
          · have still : (i.withStation b o).withStations o hit l = i.withStation b o := by
              refine List.foldlRecOn (motive := fun r => r = i.withStation b o) l _ rfl fun r same st member => ?_
              rw [if_neg fun hits => more ⟨st, member, hits⟩, same]
            simp [entered, last, more, still]
      · simp [entered]
    · simp [here]

end

/-! ## Changes of a record in a row -/

section

variable {tag : Tag} {f g : Item → Item} (s : State)

theorem updItem_updItem (kept : ∀ j, (f j).tag = j.tag) : updItem tag g (updItem tag f s) = updItem tag (fun j => g (f j)) s := by
  have items : ((s.queue.items.map fun j => if j.tag = tag then f j else j).map fun j => if j.tag = tag then g j else j)
      = s.queue.items.map fun j => if j.tag = tag then g (f j) else j := by
    rw [List.map_map]
    refine List.map_congr_left fun j _ => ?_
    by_cases own : j.tag = tag <;> simp [own, kept]
  unfold updItem
  rw [items]

theorem updItem_id : updItem tag (fun j => j) s = s := by
  simp [updItem]

theorem itemOf?_updItem (kept : ∀ j, (f j).tag = j.tag) : itemOf? tag (updItem tag f s) = (itemOf? tag s).map f := by
  unfold itemOf? updItem
  rw [List.find?_map]
  have test : ((fun j : Item => j.tag == tag) ∘ fun j => if j.tag = tag then f j else j) = fun j => j.tag == tag := by
    funext j
    by_cases own : j.tag = tag <;> simp [own, kept]
  rw [test]
  cases found : s.queue.items.find? fun j => j.tag == tag with
  | none => rfl
  | some j =>
    have own : j.tag = tag := by simpa using List.find?_some found
    simp [own]

theorem Item.tag_withStation (i : Item) (st : Station) (o : StationOutcome) : (i.withStation st o).tag = i.tag := by
  rw [Item.withStation_eq]

end

/-! ## Stations that fall due (R72, R73, R77) -/

section

variable {i : Item} {st : Station} {s t : State}

theorem holds_eq_false_iff {tag : Tag} {bank : BankName} {x : StationTriggers} : x.holds tag bank = false ↔
    (∀ e ∈ x.queue, ¬ (e.tag = tag ∧ e.bank = bank)) ∧ ∀ tr, x.slot = some tr → ¬ (tr.tag = tag ∧ tr.bank = bank) := by
  unfold StationTriggers.holds
  cases x.slot <;> simp

theorem fallsDue_iff : fallsDue i st s = true ↔ stationDue i st s := by
  simp only [fallsDue, stationDue, Bool.and_eq_true, beq_iff_eq, Bool.not_eq_true', holds_eq_false_iff, positionReached_iff,
    and_assoc]
  rfl

/-- Whether a station falls due is read from its own triggers, the position count and the plans alone. -/
theorem fallsDue_congr (trig : t.trig[st] = s.trig[st]) (pos : t.pos = s.pos) (plans : t.plans = s.plans) :
    fallsDue i st t = fallsDue i st s := by
  have plan (n : BankName) : planOf n t = planOf n s := by
    simp only [planOf, bankOf, plans]
  simp only [fallsDue, trig, plan, positionReached, pos]

theorem examineStation_of_trackOnly (mode : s.port.mode = .trackOnly) :
    examineStation i st s = if fallsDue i st s then setStation i.tag st .skipped s else s := by
  simp only [examineStation, mode]

theorem examineStation_of_halt (mode : s.port.mode = .halt) : examineStation i st s = s := by
  simp only [examineStation, mode, ite_self]

theorem examineStation_of_run (mode : s.port.mode = .run) :
    examineStation i st s = if fallsDue i st s then handTrigger i st s else s := by
  simp only [examineStation, mode]

theorem exec_triggerExamination (tag : Tag) (s : State) :
    exec (.triggerExaminationAtCreation tag) s = .next (examineTriggers tag s) :=
  rfl

theorem examineTriggers_of_found {tag : Tag} (found : itemOf? tag s = some i) :
    examineTriggers tag s = allStations.foldl (fun t st => examineStation i st t) s := by
  rw [examineTriggers, found]

/-- In TRACK_ONLY the stations of a list that fall due become SKIPPED (R77). -/
theorem foldl_examineStation_of_trackOnly {hit : Station → Bool} {l : List Station} (mode : s.port.mode = .trackOnly)
    (due : ∀ st, fallsDue i st s = hit st) : l.foldl (fun t st => examineStation i st t) s
      = updItem i.tag (Item.withStations .skipped hit l) s := by
  induction l generalizing s with
  | nil => exact (updItem_id s).symm
  | cons b l ih =>
    rw [List.foldl_cons, examineStation_of_trackOnly mode, due]
    cases here : hit b with
    | false =>
      rw [if_neg Bool.false_ne_true, ih mode due]
      have rest : Item.withStations .skipped hit (b :: l) = Item.withStations .skipped hit l := by
        funext j
        simp [Item.withStations, here]
      rw [rest]
    | true =>
      rw [if_pos rfl, ih (s := setStation i.tag b .skipped s) mode due, setStation,
        updItem_updItem s fun j => j.tag_withStation b _]
      have rest (j : Item) :
          (j.withStation b .skipped).withStations .skipped hit l = j.withStations .skipped hit (b :: l) := by
        simp [Item.withStations, here]
      simp only [rest]

/-- What a station's triggers are after an examination in RUN (R73). -/
def triggersAfter (i : Item) (st : Station) (s : State) : StationTriggers :=
  if fallsDue i st s then
    if s.trig[st].slot.isNone then { s.trig[st] with slot := some (trainNow (entryFor i st s) s) }
    else if s.trig[st].queue.length < 4 then { s.trig[st] with queue := s.trig[st].queue ++ [entryFor i st s] }
    else s.trig[st]
  else s.trig[st]

/-- A station that falls due in RUN finds its line taken and its queue full (R73). -/
def overrunAt (i : Item) (s : State) (st : Station) : Bool :=
  fallsDue i st s && s.trig[st].slot.isSome && decide (4 ≤ s.trig[st].queue.length)

/-- A station examined in RUN: its triggers change, or it is OVERRUN (R73). -/
theorem examineStation_eq (mode : s.port.mode = .run) : examineStation i st s =
    if overrunAt i s st then stationFault (setStation i.tag st .overrun s)
    else updTrig st (fun _ => triggersAfter i st s) s := by
  have still : updTrig st (fun _ => s.trig[st]) s = s := by simp [updTrig]
  rw [examineStation_of_run mode, overrunAt, triggersAfter]
  cases due : fallsDue i st s with
  | false => simpa using still.symm
  | true =>
    simp only [if_true, Bool.true_and, handTrigger]
    cases slot : s.trig[st].slot with
    | none => simp [-Fin.getElem_fin, startTrain, updTrig, trainNow, entryFor, trainOf, triggerEntry]
    | some tr =>
      by_cases room : s.trig[st].queue.length < 4
      · have short : s.trig[st].queue.length < Config.triggerQueueCapacity := room
        simp [-Fin.getElem_fin, slot, short, room, Nat.not_le.mpr room, updTrig, entryFor, triggerEntry]
      · have full : ¬ s.trig[st].queue.length < Config.triggerQueueCapacity := room
        simp [-Fin.getElem_fin, full, Nat.not_lt.mp room]

/-- What a walk over stations in RUN has done. -/
structure Examined (i : Item) (l : List Station) (s t : State) : Prop where
  trig : ∀ k : Station, t.trig[k] = if k ∈ l then triggersAfter i k s else s.trig[k]
  rest : t = { s with
    trig := t.trig
    queue := (updItem i.tag (Item.withStations .overrun (overrunAt i s) l) s).queue
    port := (l.foldl (fun u st => if overrunAt i s st then stationFault u else u) s).port }

theorem examined_foldl {l : List Station} (once : l.Nodup) (mode : s.port.mode = .run) :
    Examined i l s (l.foldl (fun t st => examineStation i st t) s) := by
  induction l using List.reverseRecOn with
  | nil => exact ⟨fun k => by simp, congrArg (fun u : State => { s with queue := u.queue }) (updItem_id s).symm⟩
  | append_singleton l b ih =>
    obtain ⟨onceL, -, apart⟩ := List.nodup_append.mp once
    have new : b ∉ l := fun member => apart b member b (by simp) rfl
    obtain ⟨trig, rest⟩ := ih onceL
    rw [List.foldl_append, List.foldl_cons, List.foldl_nil]
    generalize l.foldl (fun t st => examineStation i st t) s = u at trig rest ⊢
    have here : u.trig[b] = s.trig[b] := by rw [trig, if_neg new]
    have pos : u.pos = s.pos := (congrArg State.pos rest :)
    have plans : u.plans = s.plans := (congrArg State.plans rest :)
    have settings : u.port.settings = s.port.settings := by
      rw [rest]
      exact foldl_keeps s (fun t => t.port.settings) (fun t st => by split <;> rfl) l
    have modeU : u.port.mode = .run := by
      rw [rest]
      exact (foldl_keeps s (fun t => t.port.mode) (fun t st => by split <;> rfl) l).trans mode
    have plan (n : BankName) : planOf n u = planOf n s := by simp only [planOf, bankOf, plans]
    have due : fallsDue i b u = fallsDue i b s := fallsDue_congr here pos plans
    have after : triggersAfter i b u = triggersAfter i b s := by
      simp only [triggersAfter, due, here, trainNow, entryFor, plan, pos, settings]
    have overrun : overrunAt i u b = overrunAt i s b := by simp only [overrunAt, due, here]
    rw [examineStation_eq modeU, overrun, after]
    cases hit : overrunAt i s b with
    | false =>
      rw [if_neg Bool.false_ne_true]
      refine ⟨fun k => ?_, ?_⟩
      · by_cases same : k = b
        · subst same
          rw [trig_updTrig_same, if_pos (by simp)]
        · rw [trig_updTrig_other _ _ same, trig]
          simp [same]
      · have queue : Item.withStations .overrun (overrunAt i s) (l ++ [b]) = Item.withStations .overrun (overrunAt i s) l := by
          funext j
          simp [Item.withStations, hit]
        have port : (l ++ [b]).foldl (fun u st => if overrunAt i s st then stationFault u else u) s
            = l.foldl (fun u st => if overrunAt i s st then stationFault u else u) s := by
          simp [hit]
        rw [queue, port]
        exact congrArg (fun v : State => { v with trig := (updTrig b (fun _ => triggersAfter i b s) u).trig }) rest
    | true =>
      rw [if_pos rfl]
      refine ⟨fun k => ?_, ?_⟩
      · have unchanged : triggersAfter i b s = s.trig[b] := by
          simp only [overrunAt, Bool.and_eq_true, decide_eq_true_eq] at hit
          obtain ⟨⟨dueB, taken⟩, full⟩ := hit
          simp only [triggersAfter, dueB, if_true, Option.isNone_iff_eq_none, Option.isSome_iff_ne_none.mp taken, if_false,
            Nat.not_lt.mpr full]
        show u.trig[k] = _
        rw [trig]
        by_cases same : k = b
        · subst same
          rw [if_neg new, if_pos (by simp), unchanged]
        · simp [same]
      · have queue : updItem i.tag (Item.withStations .overrun (overrunAt i s) (l ++ [b])) s
            = updItem i.tag (fun j => j.withStation b .overrun)
                (updItem i.tag (Item.withStations .overrun (overrunAt i s) l) s) := by
          have last : Item.withStations .overrun (overrunAt i s) (l ++ [b])
              = fun j => (j.withStations .overrun (overrunAt i s) l).withStation b .overrun := by
            funext j
            simp [Item.withStations, hit]
          rw [last, updItem_updItem s fun j => by rw [Item.withStations_eq]]
        have port : (l ++ [b]).foldl (fun u st => if overrunAt i s st then stationFault u else u) s
            = stationFault (l.foldl (fun u st => if overrunAt i s st then stationFault u else u) s) := by
          simp [hit]
        rw [queue, port]
        exact congrArg (fun v : State => stationFault (setStation i.tag b .overrun v)) rest

end

/-! ## Trains and timeouts (R75, R76, R78) -/

section

variable {st : Station} {s : State}

theorem trainDue_of_slot {tr : Train} (slot : s.trig[st].slot = some tr) : trainDue st s =
    if timeReached (tr.start + BitVec.ofNat 32 (26 * tr.period)) s then some tr else none := by
  rw [trainDue, slot]
  rfl

theorem exec_trainEnd_of_not_due (none : trainDue st s = none) : exec (.trainEnd st) s = .next s := by
  simp only [exec, execTrainEnd, none]

theorem exec_trainEnd_of_due {tr : Train} (due : trainDue st s = some tr) :
    exec (.trainEnd st) s = .next (nextTrain st (recordTrainEnd st tr s)) := by
  simp only [exec, execTrainEnd, due]

theorem nextTrain_eq (st : Station) (s : State) : nextTrain st s = updTrig st (fun t =>
    { t with slot := t.queue.head?.map fun e => trainNow e s, queue := t.queue.tail }) s := by
  unfold nextTrain
  cases queue : s.trig[st].queue with
  | nil => simp [-Fin.getElem_fin, updTrig, queue]
  | cons e rest =>
    simp only [updTrig, queue]
    rfl

theorem recordTrainEnd_of_none {tr : Train} (none : ∀ i, ¬ (liveItem? tr.tag tr.bank s = some i ∧ i.stations[st] = .waiting)) :
    recordTrainEnd st tr s = s := by
  unfold recordTrainEnd
  split
  next i live =>
    rw [if_neg]
    exact fun waiting => none i ⟨live, waiting⟩
  next => rfl

theorem recordTrainEnd_of_live {tr : Train} {i : Item} (live : liveItem? tr.tag tr.bank s = some i)
    (waiting : i.stations[st] = .waiting) : recordTrainEnd st tr s =
      updTrig st (fun t => { t with timeouts := t.timeouts ++
        [{ tag := tr.tag, bank := tr.bank, expiry := after s.pos.time s.port.settings.cameraTimeout }] }) (setStation tr.tag st .triggered s) := by
  simp only [recordTrainEnd, live, waiting, if_true]

theorem timeoutDue_of_cons {e : TimeoutEntry} {rest : List TimeoutEntry} (timeouts : s.trig[st].timeouts = e :: rest) :
    timeoutDue st s = if timeReached e.expiry s then some e else none := by
  simp only [timeoutDue, timeouts]

theorem exec_cameraTimeoutExpiry_of_not_due (none : timeoutDue st s = none) : exec (.cameraTimeoutExpiry st) s = .next s := by
  simp only [exec, execCameraTimeoutExpiry, none]

theorem exec_cameraTimeoutExpiry_of_due {e : TimeoutEntry} (due : timeoutDue st s = some e) :
    exec (.cameraTimeoutExpiry st) s = .next (expireTimeout st e s) := by
  simp only [exec, execCameraTimeoutExpiry, due]

theorem expireTimeout_of_none {e : TimeoutEntry} (none : ∀ i, ¬ (liveItem? e.tag e.bank s = some i ∧ i.stations[st] = .triggered)) :
    expireTimeout st e s = updTrig st (fun t => { t with timeouts := t.timeouts.tail }) s := by
  unfold expireTimeout
  split
  next i live =>
    rw [if_neg]
    exact fun triggered => none i ⟨live, triggered⟩
  next => rfl

theorem expireTimeout_of_live {e : TimeoutEntry} {i : Item} (live : liveItem? e.tag e.bank s = some i)
    (triggered : i.stations[st] = .triggered) : expireTimeout st e s =
      noted 10 5 (setStation e.tag st .missing (updTrig st (fun t => { t with timeouts := t.timeouts.tail }) s)) := by
  simp only [expireTimeout, live, triggered, if_true, stationFault_eq]

end

end Sys2Proof.Machine

open Sys2Proof Sys2Proof.Machine Sys2Proof.Safety

/-- Settles O30: each station is read as it stood before the examination, since the walk changes no station but the one it is
at. -/
theorem stationsFallDue : Obligations.StationsFallDue := by
  unfold Obligations.StationsFallDue
  refine ⟨fun tag i s distinct found mode => ?run, fun tag s => ⟨fun idle => ?idle, fun i found mode => ?trackOnly⟩⟩
  case run =>
    obtain ⟨live, rfl⟩ := mem_of_itemOf? found
    obtain ⟨trig, rest⟩ := examined_foldl (i := i) nodup_allStations mode
    obtain ⟨v, value, port⟩ := foldl_stationFault s (overrunAt i s) allStations
    rw [port] at rest
    have overrun {st : Station} (hit : overrunAt i s st = true) : i.stations[st] = .waiting := by
      simp only [overrunAt, Bool.and_eq_true] at hit
      exact (fallsDue_iff.mp hit.1.1).1
    have outcome (st : Station) : (i.withStations .overrun (overrunAt i s) allStations).stations[st]
        = if overrunAt i s st then .overrun else i.stations[st] := by
      rw [Item.stations_withStations]
      simp [mem_allStations]
    have overruns : ((List.finRange 8).countP fun st : Fin 8 =>
        (i.withStations .overrun (overrunAt i s) allStations).stations[st] == .overrun && i.stations[st] != .overrun)
          = allStations.countP (overrunAt i s) := by
      rw [allStations_eq_finRange]
      refine List.countP_congr fun st _ => ?_
      rw [← allStations_eq_finRange, outcome]
      cases hit : overrunAt i s st with
      | false => simp
      | true => simp [overrun hit]
    refine ⟨allStations.foldl (fun t st => examineStation i st t) s, i.withStations .overrun (overrunAt i s) allStations,
      by rw [exec_triggerExamination, examineTriggers_of_found found], ?_, i.withStations_eq, fun st => ?_, ?_⟩
    · refine rest.trans ?_
      have items : (updItem i.tag (Item.withStations .overrun (overrunAt i s) allStations) s).queue.items
          = s.queue.items.map fun j => if j.tag = i.tag then i.withStations .overrun (overrunAt i s) allStations else j := by
        refine List.map_congr_left fun j member => ite_congr rfl (fun same => ?_) fun _ => rfl
        rw [List.inj_on_of_nodup_map distinct member live same]
      rw [← items]
      conv_rhs => rw [rest]
      rfl
    · have here : (allStations.foldl (fun t st => examineStation i st t) s).trig[st] = triggersAfter i st s := by
        rw [trig, if_pos (mem_allStations st)]
      rw [here, outcome, triggersAfter, overrunAt]
      simp only [← fallsDue_iff]
      cases fallsDue i st s with
      | false => simp
      | true =>
        cases slot : s.trig[st].slot with
        | none => simp
        | some tr =>
          by_cases room : s.trig[st].queue.length < 4
          · simp [-Fin.getElem_fin, room, Nat.not_le.mpr room]
          · simp [-Fin.getElem_fin, room, Nat.not_lt.mp room]
    · intro overruns'
      have same : overruns' = allStations.countP (overrunAt i s) := overruns
      rw [same]
      have portEq := congrArg State.port rest
      dsimp only at portEq
      refine ⟨by rw [portEq]; simpa using value, fun k other => ?_, by rw [portEq], ?_⟩
      · have apart : (5 : Nat) ≠ k.val := fun e => other (Fin.ext e.symm)
        rw [portEq]
        simp [apart]
      · rw [Item.phase_withStations i rfl]
        refine ite_congr (propext (and_congr_left fun _ => ?_)) (fun _ => rfl) fun _ => rfl
        rw [List.countP_pos_iff]
  case idle =>
    rw [exec_triggerExamination, examineTriggers]
    split
    next i found =>
      rcases idle with none | halt
      · rw [none] at found
        cases found
      · refine congrArg _ (List.foldlRecOn (motive := fun t => t = s) allStations _ rfl fun t same st _ => ?_)
        rw [same, examineStation_of_halt halt]
    next => rfl
  case trackOnly =>
    obtain ⟨live, rfl⟩ := mem_of_itemOf? found
    have kept (j : Item) : (j.withStations .skipped (fun st => fallsDue i st s) allStations).tag = j.tag := by
      rw [Item.withStations_eq]
    refine ⟨updItem i.tag (Item.withStations .skipped (fun st => fallsDue i st s) allStations) s, _, ?_, rfl,
      by rw [itemOf?_updItem s kept, found]; rfl, i.withStations_eq, fun st => ?_, ?_, ?_⟩
    · rw [exec_triggerExamination, examineTriggers_of_found found, foldl_examineStation_of_trackOnly mode fun _ => rfl]
    · rw [Item.stations_withStations, ← fallsDue_iff]
      cases fallsDue i st s <;> simp [mem_allStations]
    · intro ⟨st, due⟩ entered last
      rw [Item.phase_withStations i rfl, if_pos ⟨⟨st, mem_allStations st, fallsDue_iff.mpr due⟩, entered, last⟩]
    · intro quiet
      rw [Item.phase_withStations i rfl, if_neg]
      rintro ⟨⟨st, -, due⟩, entered, last⟩
      rcases quiet with none | other | more
      · exact none st (fallsDue_iff.mp due)
      · exact other entered
      · exact more.ne' last

/-- Settles O31: the end is recorded for a live item whose station is WAITING, and the queue's head follows. -/
theorem trainEndStartsTheTimeout : Obligations.TrainEndStartsTheTimeout := by
  unfold Obligations.TrainEndStartsTheTimeout
  refine fun st s => ⟨fun empty => exec_trainEnd_of_not_due (by simp only [trainDue, empty]), fun tr slot => ?_⟩
  intro ended next live
  have due (end_ : ended) : trainDue st s = some tr := by rw [trainDue_of_slot slot, if_pos (timeReached_iff.mpr end_)]
  refine ⟨fun early => exec_trainEnd_of_not_due ?_, fun end_ none => ?_, fun i end_ alive => ?_⟩
  · rw [trainDue_of_slot slot, if_neg (mt timeReached_iff.mp early)]
  · rw [exec_trainEnd_of_due (due end_), recordTrainEnd_of_none none, nextTrain_eq]
    rfl
  · rw [exec_trainEnd_of_due (due end_), recordTrainEnd_of_live alive.1 alive.2, nextTrain_eq]
    simp only [updTrig, setStation, updItem, Fin.getElem_fin, Vector.getElem_set_self, Vector.set_set]
    rfl

/-- Settles O32: the head of the list leaves it, and R11 is how a station outcome is written. -/
theorem timeoutMakesTheStationMissing : Obligations.TimeoutMakesTheStationMissing := by
  unfold Obligations.TimeoutMakesTheStationMissing
  refine ⟨fun st s => ⟨fun empty => exec_cameraTimeoutExpiry_of_not_due (by simp only [timeoutDue, empty]),
    fun e rest timeouts => ?expiry⟩, fun i st o => ⟨i.withStation_eq st o, fun entered resolved => ?complete, fun kept => ?same⟩⟩
  case expiry =>
    intro removed live
    have leaves : updTrig st (fun t => { t with timeouts := t.timeouts.tail }) s = removed := by
      simp only [updTrig, timeouts, List.tail_cons]
      rfl
    have due (end_ : reached s.pos.time e.expiry) : timeoutDue st s = some e := by
      rw [timeoutDue_of_cons timeouts, if_pos (timeReached_iff.mpr end_)]
    refine ⟨fun early => exec_cameraTimeoutExpiry_of_not_due ?_, fun end_ none => ?_, fun i end_ alive => ?_⟩
    · rw [timeoutDue_of_cons timeouts, if_neg (mt timeReached_iff.mp early)]
    · rw [exec_cameraTimeoutExpiry_of_due (due end_), expireTimeout_of_none none, leaves]
    · rw [exec_cameraTimeoutExpiry_of_due (due end_), expireTimeout_of_live alive.1 alive.2, leaves]
      rfl
  case complete =>
    rw [Item.phase_withStation, if_pos]
    refine ⟨entered, unresolvedStations_eq_zero_iff.mpr fun k => ?_⟩
    obtain ⟨notWaiting, notTriggered⟩ := resolved k
    simp [-Fin.getElem_fin, StationOutcome.unresolved, notWaiting, notTriggered]
  case same =>
    rw [Item.phase_withStation, if_neg]
    rintro ⟨entered, resolved⟩
    rcases kept with other | ⟨k, waits⟩
    · exact other entered
    · have := unresolvedStations_eq_zero_iff.mp resolved k
      rcases waits with waits | waits <;> simp [StationOutcome.unresolved, waits] at this
end

section
/-! The lamp (9.8, O51), the downlink receiver and its blocks (O52), and the loss of the link (O53). -/

namespace Sys2Proof.Machine

open Sys2Proof.Safety

/-! ## The lamp follows mode and link (R157) -/

/-- The lamp, and what it is read from, is as it was. -/
structure SameLamp (s t : State) : Prop where
  lamp : t.gates.lamp = s.gates.lamp
  mode : t.port.mode = s.port.mode
  link : t.link.state = s.link.state
  time : t.pos.time = s.pos.time

/-- The lamp state is the one that mode and link call for. -/
def Lit (s : State) : Prop :=
  s.gates.lamp.state = tableR157 s.port.mode s.link.state

/-- A lamp that follows mode and link goes on doing so, and a lamp state that changes is entered. -/
def KeepsLit (s t : State) : Prop :=
  Lit s → Lit t ∧ (t.gates.lamp.state ≠ s.gates.lamp.state → t.gates.lamp = Lamp.enter t.gates.lamp.state t.pos.time)

theorem lampFor_eq (m : Mode) (l : LinkState) : lampFor m l = tableR157 m l := by
  cases m <;> cases l <;> rfl

theorem Lamp.enter_state (l : LampState) (time : Word32) : (Lamp.enter l time).state = l := by
  cases l <;> rfl

section

variable {s t u : State}

theorem SameLamp.refl (s : State) : SameLamp s s :=
  ⟨rfl, rfl, rfl, rfl⟩

theorem SameLamp.trans (h : SameLamp s t) (g : SameLamp t u) : SameLamp s u :=
  ⟨g.lamp.trans h.lamp, g.mode.trans h.mode, g.link.trans h.link, g.time.trans h.time⟩

theorem Ordinary.sameLamp (h : Ordinary s t) : SameLamp s t :=
  ⟨h.lamp, h.mode, h.linkState, by rw [h.pos]⟩

theorem SameLamp.keepsLit (h : SameLamp s t) : KeepsLit s t := fun lit =>
  ⟨by rwa [Lit, h.lamp, h.mode, h.link], fun changed => absurd (by rw [h.lamp]) changed⟩

theorem Ordinary.keepsLit (h : Ordinary s t) : KeepsLit s t :=
  h.sameLamp.keepsLit

theorem KeepsLit.after (h : SameLamp s t) (g : KeepsLit t u) : KeepsLit s u := fun lit => by
  have := g (h.keepsLit lit).1
  rwa [h.lamp] at this

theorem KeepsLit.before (h : KeepsLit s t) (g : SameLamp t u) : KeepsLit s u := fun lit => by
  obtain ⟨litT, entered⟩ := h lit
  refine ⟨(g.keepsLit litT).1, fun changed => ?_⟩
  rw [g.lamp] at changed ⊢
  rw [g.time]
  exact entered changed

/-- Whatever becomes of mode and link, the lamp then follows them. -/
theorem KeepsLit.followLamp (lamp : t.gates.lamp = s.gates.lamp) : KeepsLit s (followLamp t) := by
  intro _
  unfold Machine.followLamp
  split
  next same => exact ⟨by rw [Lit, ← same, lampFor_eq], fun changed => absurd (by rw [lamp]) changed⟩
  next => exact ⟨by rw [Lit, Lamp.enter_state, lampFor_eq], fun _ => by rw [Lamp.enter_state]⟩

theorem followLamp_eq (s : State) : followLamp s = { s with gates.lamp := (followLamp s).gates.lamp } := by
  unfold followLamp
  split <;> rfl

theorem followLamp_state (s : State) : (followLamp s).gates.lamp.state = tableR157 s.port.mode s.link.state := by
  unfold followLamp
  split
  next same => rw [← same, lampFor_eq]
  next => rw [Lamp.enter_state, lampFor_eq]

theorem SameLamp.foldl {α : Type} {f : State → α → State} (each : ∀ t a, SameLamp t (f t a)) (l : List α) (s : State) :
    SameLamp s (l.foldl f s) :=
  List.foldlRecOn (motive := SameLamp s) l f (.refl s) fun _ h a _ => h.trans (each _ a)

end

section

variable (s : State)

theorem SameLamp.updFrame (id : FrameId) (f : FrameRecord → FrameRecord) : SameLamp s (updFrame id f s) :=
  ⟨by simp, by simp, by simp, by simp⟩

theorem SameLamp.answerMark (m : KeepMark) (v : Bool) (target : Byte) (n tag : Word16) :
    SameLamp s (answerMark m v target n tag s).1 := by
  unfold Machine.answerMark Machine.answerMarkFrame
  split
  · split
    · exact .refl s
    · dsimp only
      split
      · exact .refl s
      · exact .updFrame s _ _
  · split
    · split
      · exact .refl s
      · exact .refl s
      · exact .foldl (fun t (p : Station × FrameId) => .updFrame t p.2 _) _ s
    · exact .refl s

/-! ## The link's part in it -/

theorem KeepsLit.goodInAligning : KeepsLit s (goodInAligning s) := by
  unfold Machine.goodInAligning
  split
  · exact .followLamp rfl
  · exact SameLamp.keepsLit ⟨rfl, rfl, rfl, rfl⟩

theorem KeepsLit.goodBlock {owner : State → State} (h : ∀ t, SameLamp t (owner t)) : KeepsLit s (goodBlock owner s) := by
  cases state : s.link.state with
  | aligning =>
    rw [goodBlock_aligning s owner state]
    exact .after (t := { s with link.receiver := .hunt }) ⟨rfl, rfl, rfl, rfl⟩ (.goodInAligning _)
  | up =>
    rw [goodBlock_up s owner state]
    exact ((Ordinary.heard s).sameLamp.trans (h _)).keepsLit

theorem SameLamp.dispatch {owner : State → State × Result × List Byte} (h : ∀ t, SameLamp t (owner t).1) (kind number : Byte) :
    SameLamp s (dispatch kind number owner s) := by
  rw [dispatch_eq]
  exact (h s).trans (Ordinary.offerReply _ _).sameLamp

theorem KeepsLit.dispatchOffice (r : OfficeRequest) : KeepsLit s (dispatchOffice r s) := by
  cases r with
  | idle n => exact .goodBlock s .refl
  | verdict n mode address action mask =>
    exact .goodBlock s fun t => .dispatch t (fun u => (Ordinary.answerVerdict mode address action mask u).sameLamp) _ n
  | keep n target frame tag => exact .goodBlock s fun t => .dispatch t (fun u => .answerMark u .k0 true target frame tag) _ n
  | release n target frame tag => exact .goodBlock s fun t => .dispatch t (fun u => .answerMark u .k0 false target frame tag) _ n
  | fetchRegion n frame tag x y w h factor =>
    exact .goodBlock s fun t => .dispatch t (fun u => (Ordinary.answerFetchRegion n frame tag x y w h factor u).sameLamp) _ n
  | queryItem n mode address =>
    exact .goodBlock s fun t => .dispatch t (fun u => (Ordinary.answerItemView mode address u).sameLamp) _ n
  | queryStatus n => exact .goodBlock s fun t => .dispatch t .refl _ n
  | unknown kind n => exact .goodBlock s fun t => .dispatch t .refl kind n

/-! ## The line port's part in it -/

theorem KeepsLit.enterMode (m : Mode) : KeepsLit s (enterMode m s) := by
  have skipped := (Ordinary.skipAllQueued { s with port.mode := m }).lamp
  unfold Machine.enterMode
  cases m with
  | run => exact .followLamp (t := { s with port.mode := .run }) rfl
  | trackOnly => exact .followLamp (t := skipAllQueued { s with port.mode := .trackOnly }) skipped
  | halt =>
    refine .followLamp (t := swapIfPending (skipAllQueued { s with port.mode := .halt })) ?_
    rw [swapIfPending_gates]
    exact skipped

theorem SameLamp.answerCommitPlan (bank : Byte) : SameLamp s (answerCommitPlan bank s).1 := by
  have valid (n : BankName) (v : Bool) : SameLamp s (setValid n v s) := by cases n <;> exact ⟨rfl, rfl, rfl, rfl⟩
  obtain same | ⟨n, -, ⟨x, -, same⟩ | ⟨-, same | ⟨-, -, same⟩ | ⟨-, -, same⟩⟩⟩ := answerCommitPlan_cases s bank
  · exact (congrArg (SameLamp s) same).mpr (.refl s)
  · exact (congrArg (SameLamp s) same).mpr (valid n false)
  · exact (congrArg (SameLamp s) same).mpr (valid n true)
  · exact (congrArg (SameLamp s) same).mpr ((valid n true).trans ⟨rfl, rfl, rfl, rfl⟩)
  · exact (congrArg (SameLamp s) same).mpr ((valid n true).trans ⟨rfl, rfl, rfl, rfl⟩)

theorem KeepsLit.ownerAnswer (r : LineRequest) : KeepsLit s (ownerAnswer r s).1 := by
  cases r with
  | readStatus => exact SameLamp.keepsLit ⟨rfl, rfl, rfl, rfl⟩
  | setMode mode =>
    obtain same | ⟨m, same, -, -⟩ := answerSetMode_cases s mode
    · exact (congrArg (KeepsLit s) same).mpr (SameLamp.refl s).keepsLit
    · exact (congrArg (KeepsLit s) same).mpr (.enterMode s m)
  | configure items =>
    obtain same | ⟨c, same, -⟩ := answerConfigure_cases s items
    · exact (congrArg (KeepsLit s) same).mpr (SameLamp.refl s).keepsLit
    · exact (congrArg (KeepsLit s) same).mpr (SameLamp.keepsLit ⟨rfl, rfl, rfl, rfl⟩)
  | readConfiguration => exact (SameLamp.refl s).keepsLit
  | writePlan p =>
    obtain same | ⟨n, -, -, same⟩ := answerWritePlan_cases s p
    · exact (congrArg (KeepsLit s) same).mpr (SameLamp.refl s).keepsLit
    · exact (congrArg (KeepsLit s) same).mpr (SameLamp.keepsLit ⟨by simp, by simp, by simp, by simp⟩)
  | commitPlan bank => exact (SameLamp.answerCommitPlan s bank).keepsLit
  | readPlan bank =>
    show KeepsLit s (answerReadPlan bank s).1
    unfold answerReadPlan
    split <;> exact (SameLamp.refl s).keepsLit
  | announceItem back =>
    show KeepsLit s (answerAnnounceItem back s).1
    unfold answerAnnounceItem
    dsimp only
    split_ifs
    · exact (SameLamp.refl s).keepsLit
    · exact (SameLamp.refl s).keepsLit
    · exact SameLamp.keepsLit ⟨rfl, rfl, rfl, rfl⟩
    · exact (SameLamp.refl s).keepsLit
    · rw [createItem_eq]
      exact SameLamp.keepsLit ⟨rfl, rfl, rfl, rfl⟩
  | voidItem mode n => exact (Ordinary.answerVoidItem mode n s).keepsLit
  | forceDecision mode n action => exact (Ordinary.answerForceDecision mode n action s).keepsLit
  | readItem mode n => exact (Ordinary.answerItemView mode n s).keepsLit
  | keep target n tag => exact (SameLamp.answerMark s .k1 true target n tag).keepsLit
  | release target n tag => exact (SameLamp.answerMark s .k1 false target n tag).keepsLit
  | readEvents => exact (SameLamp.refl s).keepsLit
  | clearEvents marks => exact SameLamp.keepsLit ⟨rfl, rfl, rfl, rfl⟩
  | setEvents marks => exact SameLamp.keepsLit ⟨rfl, rfl, rfl, rfl⟩
  | setEventEnables e => exact SameLamp.keepsLit ⟨rfl, rfl, rfl, rfl⟩
  | readCounts c =>
    show KeepsLit s (answerReadCounts c s).1
    unfold answerReadCounts
    split
    · exact (SameLamp.refl s).keepsLit
    · split
      · exact SameLamp.keepsLit ⟨rfl, rfl, rfl, rfl⟩
      · exact (SameLamp.refl s).keepsLit
  | clear => exact .followLamp rfl

theorem KeepsLit.takeRequest (r : LineRequest) : KeepsLit s (takeRequest r s) := by
  cases free : busy s with
  | true =>
    rw [takeRequest_of_busy s r free]
    exact SameLamp.keepsLit ⟨rfl, rfl, rfl, rfl⟩
  | false =>
    rw [takeRequest_of_free s r free]
    have answered (t : State) : KeepsLit t (answerTaken r t).1 := by
      unfold answerTaken
      split
      · exact .ownerAnswer t r
      · exact (SameLamp.refl t).keepsLit
    exact (KeepsLit.after (t := sendZeros r.transaction.length s) ⟨rfl, rfl, rfl, rfl⟩ (answered _)).before ⟨rfl, rfl, rfl, rfl⟩

theorem KeepsLit.transaction (bytes : List Byte) : KeepsLit s (transaction bytes s) := by
  unfold Machine.transaction
  split
  · exact SameLamp.keepsLit ⟨rfl, rfl, rfl, rfl⟩
  · split <;> exact SameLamp.keepsLit ⟨rfl, rfl, rfl, rfl⟩
  · split
    · exact SameLamp.keepsLit ⟨rfl, rfl, rfl, rfl⟩
    · split
      · exact .takeRequest s _
      · unfold badWrite
        split <;> exact SameLamp.keepsLit ⟨rfl, rfl, rfl, rfl⟩

theorem KeepsLit.bus (a : BusArrival) : ∃ t, exec (.writeRequest a) s = .next t ∧ KeepsLit s t := by
  refine ⟨_, rfl, ?_⟩
  cases a with
  | transaction bytes => exact .transaction s bytes
  | chipSelect =>
    dsimp only
    unfold assertSelect
    split <;> exact SameLamp.keepsLit ⟨rfl, rfl, rfl, rfl⟩
  | busByte b =>
    dsimp only
    unfold shiftByte sendBehindStatus
    split
    case h_5 =>
      split
      · exact SameLamp.keepsLit ⟨rfl, rfl, rfl, rfl⟩
      · split <;> exact SameLamp.keepsLit ⟨rfl, rfl, rfl, rfl⟩
    all_goals exact SameLamp.keepsLit ⟨rfl, rfl, rfl, rfl⟩
  | release =>
    dsimp only
    unfold releaseSelect
    split
    case h_3 => exact .transaction s _
    all_goals exact SameLamp.keepsLit ⟨rfl, rfl, rfl, rfl⟩

end

/-! ## Office requests as commands (12.6, R167) -/

theorem exec_command_of_office (r : OfficeRequest) (s : State) : exec r.command s = .next (dispatchOffice r (beginBlock s)) := by
  cases r <;> rfl

theorem exists_office_of_isBlock {c : Instr} (block : isBlock c = true) : ∃ r : OfficeRequest, c = r.command := by
  cases c with
  | idleBlock n => exact ⟨.idle n, rfl⟩
  | verdict n mode address action mask => exact ⟨.verdict n mode address action mask, rfl⟩
  | keep master target n tag =>
    cases master with
    | office m => exact ⟨.keep m target n tag, rfl⟩
    | lineController => cases block
  | release master target n tag =>
    cases master with
    | office m => exact ⟨.release m target n tag, rfl⟩
    | lineController => cases block
  | fetchRegion n frame tag x y w h factor => exact ⟨.fetchRegion n frame tag x y w h factor, rfl⟩
  | queryItem n mode address => exact ⟨.queryItem n mode address, rfl⟩
  | queryStatus n => exact ⟨.queryStatus n, rfl⟩
  | unknownRequestKind kind n => exact ⟨.unknown kind n, rfl⟩
  | _ => cases block

/-- Where the receiver stands is no matter to a request that is dispatched. -/
theorem dispatchOffice_receiver (r : OfficeRequest) (s : State) (x : Receiver) :
    dispatchOffice r { s with link.receiver := x } = dispatchOffice r s := by
  cases r <;> rfl

theorem dispatchOffice_of_aligning (r : OfficeRequest) {s : State} (aligning : s.link.state = .aligning) :
    dispatchOffice r s = goodInAligning { s with link.receiver := .hunt } := by
  have aligned (owner : State → State) := goodBlock_aligning s owner aligning
  cases r with
  | idle n => exact aligned (fun t => t)
  | verdict n mode address action mask => exact aligned (Machine.dispatch 1 n (answerVerdict mode address action mask))
  | keep n target frame tag => exact aligned (Machine.dispatch 2 n (answerMark .k0 true target frame tag))
  | release n target frame tag => exact aligned (Machine.dispatch 3 n (answerMark .k0 false target frame tag))
  | fetchRegion n frame tag x y w h factor => exact aligned (Machine.dispatch 4 n (answerFetchRegion n frame tag x y w h factor))
  | queryItem n mode address => exact aligned (Machine.dispatch 5 n (answerItemView mode address))
  | queryStatus n => exact aligned (Machine.dispatch 6 n fun t => (t, .ok, queryStatusBody t))
  | unknown kind n => exact aligned (Machine.dispatch kind n fun t => (t, .invalid, []))

/-- Every command leaves the lamp as mode and link call for. -/
theorem KeepsLit.exec (c : Instr) (s : State) : ∃ t, exec c s = .next t ∧ KeepsLit s t := by
  have same {t : State} (h : SameLamp s t) : KeepsLit s t := h.keepsLit
  have moved {p : PositionUnit} {t : State} (time : p.time = s.pos.time) (h : Ordinary { s with pos := p } t) : KeepsLit s t :=
    have first : SameLamp s { s with pos := p } := ⟨rfl, rfl, rfl, time⟩
    (first.trans h.sameLamp).keepsLit
  have block (r : OfficeRequest) : KeepsLit s (Machine.dispatchOffice r (beginBlock s)) :=
    .after (Ordinary.beginBlock s).sameLamp (.dispatchOffice _ r)
  have request (r : LineRequest) : KeepsLit s (Machine.takeRequest r s) := .takeRequest s r
  cases c with
  | resetPin pins =>
    refine ⟨_, rfl, fun _ => ⟨rfl, fun _ => rfl⟩⟩
  | encoderStep a b o =>
    obtain ⟨p, t, done, ordinary, -, time, -⟩ := encoderStep_cases s a b o
    exact ⟨t, done, moved time ordinary⟩
  | speedWindowEnd =>
    refine ⟨_, rfl, ?_⟩
    split
    · exact same ⟨rfl, rfl, rfl, rfl⟩
    · exact same (.refl s)
  | sensorRisingEdge =>
    refine ⟨_, rfl, ?_⟩
    split_ifs
    · exact same (.refl s)
    · refine same ?_
      unfold offerEntry
      split_ifs
      · exact ⟨rfl, rfl, rfl, rfl⟩
      · rw [createItem_eq]
        exact ⟨rfl, rfl, rfl, rfl⟩
      · exact ⟨rfl, rfl, rfl, rfl⟩
    · exact same ⟨rfl, rfl, rfl, rfl⟩
  | infeedSensorFallingEdge => exact ⟨_, rfl, same ⟨rfl, rfl, rfl, rfl⟩⟩
  | haltInputRisingEdge =>
    refine ⟨_, rfl, ?_⟩
    split
    · exact same (.refl s)
    · exact moved (p := { s.pos with halt := true }) rfl ((Ordinary.raise _ _).trans (.gatesAtHalt _))
  | haltInputFallingEdge => exact ⟨_, rfl, same ⟨rfl, rfl, rfl, rfl⟩⟩
  | triggerExaminationAtCreation tag => exact ⟨_, rfl, (Ordinary.examineTriggers s tag).keepsLit⟩
  | decisionExaminationAtCreation tag => exact ⟨_, rfl, (Ordinary.examineDecision s tag).keepsLit⟩
  | trainEnd st =>
    refine ⟨_, rfl, ?_⟩
    split
    · exact ((Ordinary.recordTrainEnd s st _).trans (.nextTrain _ st)).keepsLit
    · exact same (.refl s)
  | cameraTimeoutExpiry st =>
    refine ⟨_, rfl, ?_⟩
    split
    · exact (Ordinary.expireTimeout s st _).keepsLit
    · exact same (.refl s)
  | gateExaminationAfterPlacing tag =>
    refine ⟨_, rfl, ?_⟩
    split
    · exact ((Ordinary.examinePlaced s .reject _).trans (.examineHead _)).keepsLit
    · split
      · exact ((Ordinary.examinePlaced s .rework _).trans (.examineHead _)).keepsLit
      · exact same (.refl s)
  | recoveryExpiry g =>
    refine ⟨_, rfl, ?_⟩
    split
    · exact ((Ordinary.leaveRecovery s g).trans (.examineHead _)).keepsLit
    · exact same (.refl s)
  | lampBlinkToggle =>
    refine ⟨_, rfl, ?_⟩
    split
    · exact fun lit => ⟨lit, fun changed => absurd rfl changed⟩
    · exact same (.refl s)
  | frameHeader p h =>
    refine ⟨_, rfl, ?_⟩
    cases h with
    | pattern => exact (Ordinary.syncPattern s p).keepsLit
    | complete word w h depth => exact ((Ordinary.beginHeader s p).trans (.headerArrived _ p word _ _ _)).keepsLit
    | cutBySync => exact ((Ordinary.beginHeader s p).trans (.syncPattern _ p)).keepsLit
    | cutByEnd => exact ((Ordinary.beginHeader s p).trans (.endPattern _ p)).keepsLit
  | pixelByte p b =>
    refine ⟨_, rfl, ?_⟩
    split
    · exact (Ordinary.pixelReceived s _ p b).keepsLit
    · exact (Ordinary.headerByte s p _).keepsLit
    · exact (Ordinary.trailerByte s _ p _).keepsLit
    · exact same (.refl s)
    · exact same (.refl s)
  | frameTrailer p rows crc => exact ⟨_, rfl, ((Ordinary.beginTrailer s p).trans (.takeTrailer _ p rows crc)).keepsLit⟩
  | frameEndedWithoutTrailer p cut =>
    refine ⟨_, rfl, ?_⟩
    cases cut with
    | pixelsByEnd => exact (Ordinary.endPattern s p).keepsLit
    | pixelsBySync => exact (Ordinary.syncPattern s p).keepsLit
    | trailerBySync => exact ((Ordinary.reachTrailer s p).trans (.syncPattern _ p)).keepsLit
    | trailerByEnd => exact ((Ordinary.reachTrailer s p).trans (.endPattern _ p)).keepsLit
  | writeGrant =>
    refine ⟨_, rfl, ?_⟩
    split
    · exact (Ordinary.grantPort s _).keepsLit
    · exact same (.refl s)
    · exact same (.refl s)
  | grantEnd =>
    refine ⟨_, rfl, ?_⟩
    split
    · obtain ⟨m, -, -, ordinary⟩ := finishGrant_ordinary { s with ingest.grant := none } ‹_›
      exact same (SameLamp.trans (t := { s with ingest.grant := none, store.mem := m }) ⟨rfl, rfl, rfl, rfl⟩ ordinary.sameLamp)
    · exact same (.refl s)
  | segmentBoundary => exact ⟨_, rfl, ((Ordinary.endSegment s).trans (.chooseSegment _)).keepsLit⟩
  | badBlock a =>
    refine ⟨_, rfl, ?_⟩
    cases a with
    | checkFails => exact ((Ordinary.beginBlock s).trans (.badBlock _ .hunt rfl)).keepsLit
    | cutShort => exact ((Ordinary.beginBlock s).trans (.blockStart _)).keepsLit
    | blockStart => exact (Ordinary.blockStart s).keepsLit
    | dataByte b =>
      dsimp only
      unfold downlinkByte
      split
      · exact same (.refl s)
      · split_ifs
        · exact same ⟨rfl, rfl, rfl, rfl⟩
        · exact .dispatchOffice s _
        · exact (Ordinary.badBlock s .hunt rfl).keepsLit
  | idleBlock n => exact ⟨_, rfl, block (.idle n)⟩
  | verdict n mode address action mask => exact ⟨_, rfl, block (.verdict n mode address action mask)⟩
  | keep master target n tag =>
    cases master with
    | office m => exact ⟨_, rfl, block (.keep m target n tag)⟩
    | lineController => exact ⟨_, rfl, request (.keep target n tag)⟩
  | release master target n tag =>
    cases master with
    | office m => exact ⟨_, rfl, block (.release m target n tag)⟩
    | lineController => exact ⟨_, rfl, request (.release target n tag)⟩
  | fetchRegion n frame tag x y w h factor => exact ⟨_, rfl, block (.fetchRegion n frame tag x y w h factor)⟩
  | queryItem n mode address => exact ⟨_, rfl, block (.queryItem n mode address)⟩
  | queryStatus n => exact ⟨_, rfl, block (.queryStatus n)⟩
  | unknownRequestKind kind n => exact ⟨_, rfl, block (.unknown kind n)⟩
  | lossTimerExpiry =>
    refine ⟨_, rfl, ?_⟩
    split
    · exact .followLamp (Ordinary.closeAllReported s).lamp
    · exact same (.refl s)
  | readResponse n => exact ⟨_, rfl, same ⟨rfl, rfl, rfl, rfl⟩⟩
  | writeRequest a => exact KeepsLit.bus s a
  | responsePlaced =>
    refine ⟨_, rfl, ?_⟩
    unfold placeResponse
    split <;> exact same ⟨rfl, rfl, rfl, rfl⟩
  | readStatus => exact ⟨_, rfl, request .readStatus⟩
  | setMode mode => exact ⟨_, rfl, request (.setMode mode)⟩
  | configure items => exact ⟨_, rfl, request (.configure items)⟩
  | readConfiguration => exact ⟨_, rfl, request .readConfiguration⟩
  | writePlan plan => exact ⟨_, rfl, request (.writePlan plan)⟩
  | commitPlan bank => exact ⟨_, rfl, request (.commitPlan bank)⟩
  | readPlan bank => exact ⟨_, rfl, request (.readPlan bank)⟩
  | announceItem back => exact ⟨_, rfl, request (.announceItem back)⟩
  | voidItem mode n => exact ⟨_, rfl, request (.voidItem mode n)⟩
  | forceDecision mode n action => exact ⟨_, rfl, request (.forceDecision mode n action)⟩
  | readItem mode n => exact ⟨_, rfl, request (.readItem mode n)⟩
  | readEvents => exact ⟨_, rfl, request .readEvents⟩
  | clearEvents marks => exact ⟨_, rfl, request (.clearEvents marks)⟩
  | setEvents marks => exact ⟨_, rfl, request (.setEvents marks)⟩
  | setEventEnables e => exact ⟨_, rfl, request (.setEventEnables e)⟩
  | readCounts choice => exact ⟨_, rfl, request (.readCounts choice)⟩
  | clear => exact ⟨_, rfl, request .clear⟩

theorem exec_lampBlinkToggle_of_due {s : State} (due : blinkDue s = true) : exec .lampBlinkToggle s = .next { s with
    gates.lamp.output := !s.gates.lamp.output
    gates.lamp.toggleAt := after s.gates.lamp.toggleAt (halfBlink s.gates.lamp.state) } := by
  simp only [Machine.exec, execLampBlinkToggle, due, if_true]

/-! ## The receiver (R160, R161) -/

section

variable {s : State} {b : Byte} {l : List Byte}

/-- A partial block that a whole one finds is first a bad block (R160). -/
theorem beginBlock_of_partial (partial_ : s.link.receiver = .collect (b :: l)) : beginBlock s = badBlockSeen (.collect []) s := by
  simp only [beginBlock, blockStart, partial_, badBlock_eq]

theorem beginBlock_badBlockSeen (s : State) : beginBlock (badBlockSeen (.collect []) s) = badBlockSeen (.collect []) s :=
  rfl

theorem blockStart_of_collect (collecting : s.link.receiver = .collect l) : blockStart s = badBlockSeen (.collect []) s := by
  simp only [blockStart, collecting, badBlock_eq]

theorem downlinkByte_of_short (collecting : s.link.receiver = .collect l) (short : l.length < 63) :
    downlinkByte b s = { s with link.receiver := .collect (l ++ [b]) } := by
  have more : l.length + 1 < Config.blockLength := Nat.succ_lt_succ short
  simp only [downlinkByte, collecting, if_pos more]

/-- The 64th byte is the arrival of the block (R161). -/
theorem exec_dataByte_of_last (collecting : s.link.receiver = .collect l) (last : l.length = 63) :
    exec (.badBlock (.dataByte b)) s = exec (blockCommand (l ++ [b])) { s with link.receiver := .collect [] } := by
  have whole : ¬ l.length + 1 < Config.blockLength := by rw [last, Config.blockLength]; omega
  have long : ¬ (l ++ [b]).length < 64 := by simp [last]
  show Host.Outcome.next (downlinkByte b s) = _
  simp only [downlinkByte, collecting, if_neg whole, blockCommand, if_neg long]
  cases checks : blockChecks (l ++ [b]) with
  | false => rfl
  | true =>
    rw [if_pos rfl, if_pos rfl, exec_command_of_office]
    exact congrArg _ (dispatchOffice_receiver _ s (.collect [])).symm

theorem goodInAligning_of_early (early : s.link.goodRun < 3) :
    goodInAligning s = { s with link.goodRun := s.link.goodRun + 1 } := by
  have more : ¬ Config.goodBlocksToUp ≤ s.link.goodRun + 1 := by rw [Config.goodBlocksToUp]; omega
  rw [goodInAligning, if_neg more]

theorem goodInAligning_of_fourth (third : s.link.goodRun = 3) : goodInAligning s = linkUp s := by
  rw [goodInAligning, third]
  rfl

theorem queryStatusBody_heard (up : s.link.state = .up) : queryStatusBody (heard s) =
    [s.port.mode.code, 1] ++ bytes2 s.queue.items.length ++ bytes2 s.store.freeList.length
      ++ [if s.plans.active = .a then 0 else 1, if s.plans.pendingSwap then 1 else 0] ++ bytes2 s.pos.speed
      ++ bytes4 s.pos.position.toNat ++ bytes4 s.pos.time.toNat ++ [if s.pos.halt then 1 else 0]
      ++ bytes2 (s.port.counts[(13 : Fin 14)]).toNat ++ bytes2 (s.port.counts[(12 : Fin 14)]).toNat := by
  rw [← BankName.code_eq_ite]
  simp only [queryStatusBody, heard, up]
  rfl

end

/-! ## The loss of the link (R134, R164) -/

theorem reportClosing_eq (id : FrameId) (s : State) : reportClosing id s = closedOn id s :=
  updFrame_eq s id _

/-- The transmissions that a list of frames carries close, one after the other. -/
theorem foldl_closedOn_eq (l : List FrameId) (s : State) : l.foldl (fun t id => closedOn id t) s = { s with
    store := (l.foldl (fun t id => closedOn id t) s).store
    uplink.bgOrder := (l.foldl (fun t id => closedOn id t) s).uplink.bgOrder } := by
  refine List.foldlRecOn (motive := fun t : State => t = { s with store := t.store, uplink.bgOrder := t.uplink.bgOrder }) l _ rfl
    fun t same id _ => ?_
  exact congrArg (closedOn id) same

end Sys2Proof.Machine

open Sys2Proof Sys2Proof.Machine Sys2Proof.Safety

/-- Settles O51: the lamp, the mode and the link change together, through the one function that lets the lamp follow. -/
theorem lampFollowsModeAndLink : Obligations.LampFollowsModeAndLink := by
  unfold Obligations.LampFollowsModeAndLink
  refine ⟨fun c s t lit done => ?follows, fun s => ⟨fun slow due => ?slow, fun fast due => ?fast, fun idle => ?idle⟩⟩
  case follows =>
    obtain ⟨u, next, keeps⟩ := KeepsLit.exec c s
    rw [done] at next
    cases next
    obtain ⟨litT, entered⟩ := keeps lit
    refine ⟨litT, fun changed => ?_⟩
    rw [entered changed, Lamp.enter_state]
    cases t.gates.lamp.state with
    | off => exact ⟨rfl, nofun, nofun⟩
    | slow => exact ⟨rfl, fun _ => rfl, nofun⟩
    | fast => exact ⟨rfl, nofun, fun _ => rfl⟩
    | on => exact ⟨rfl, nofun, nofun⟩
  case slow =>
    rw [exec_lampBlinkToggle_of_due (blinkDue_iff.mpr ⟨.inl slow, due⟩), slow]
    rfl
  case fast =>
    rw [exec_lampBlinkToggle_of_due (blinkDue_iff.mpr ⟨.inr fast, due⟩), fast]
    rfl
  case idle =>
    have notDue : blinkDue s = false := by
      refine Bool.eq_false_iff.mpr (mt blinkDue_iff.mp ?_)
      rintro ⟨blinks, due⟩
      rcases idle with off | on | early
      · simp [off] at blinks
      · simp [on] at blinks
      · exact early due
    simp only [exec, execLampBlinkToggle, notDue, Bool.false_eq_true, if_false]

/-- Settles O52: characters, whole blocks and a run of good ones, by the state of the receiver and of the link. -/
theorem blocksAreJudgedByTheLink : Obligations.BlocksAreJudgedByTheLink := by
  unfold Obligations.BlocksAreJudgedByTheLink
  refine ⟨fun s => ⟨fun whole => ⟨?checkFails, ?cutShort⟩, fun b l c partial_ kind => ?partialBlock, fun hunting => ⟨?start, fun b => ?ignored⟩,
    fun l collecting => ⟨?restart, fun b => ⟨fun short => ?collected, fun last => ?arrived⟩⟩⟩,
    fun c s block wellFormed whole aligning => ?aligning, fun number kind s up whole => ⟨?idle, fun unknown => ?unknown, ?status⟩⟩
  case checkFails =>
    show Host.Outcome.next (badBlock .hunt (beginBlock s)) = _
    rw [beginBlock_of_noPartial s whole, badBlock_eq]
    rfl
  case cutShort =>
    show Host.Outcome.next (blockStart (beginBlock s)) = _
    rw [beginBlock_of_noPartial s whole, blockStart_of_collect (l := []) rfl]
    rfl
  case partialBlock =>
    have seen := beginBlock_of_partial partial_
    rcases kind with block | rfl | rfl
    · obtain ⟨r, rfl⟩ := exists_office_of_isBlock block
      rw [exec_command_of_office, exec_command_of_office, seen, beginBlock_badBlockSeen]
    · exact congrArg (fun t => Host.Outcome.next (badBlock .hunt t)) seen
    · exact congrArg (fun t => Host.Outcome.next (blockStart t)) seen
  case start =>
    show Host.Outcome.next (blockStart s) = _
    simp only [blockStart, hunting]
  case ignored =>
    show Host.Outcome.next (downlinkByte b s) = _
    simp only [downlinkByte, hunting]
  case restart => exact congrArg Host.Outcome.next (blockStart_of_collect collecting)
  case collected => exact congrArg Host.Outcome.next (downlinkByte_of_short collecting short)
  case arrived => exact exec_dataByte_of_last collecting last
  case aligning =>
    obtain ⟨r, rfl⟩ := exists_office_of_isBlock block
    rw [exec_command_of_office, beginBlock_of_noPartial s whole, dispatchOffice_receiver, dispatchOffice_of_aligning r aligning]
    refine ⟨fun early => congrArg _ (goodInAligning_of_early early), fun third => ⟨_, rfl, ?_, ?_⟩⟩
    · rw [goodInAligning_of_fourth (s := { s with link.receiver := .hunt }) third, linkUp, followLamp_eq]
      rfl
    · rw [goodInAligning_of_fourth (s := { s with link.receiver := .hunt }) third]
      exact followLamp_state _
  case idle =>
    show Host.Outcome.next (goodBlock (fun t => t) (beginBlock s)) = _
    rw [beginBlock_of_noPartial s whole, goodBlock_receiver, goodBlock_up _ _ up]
  case unknown => exact congrArg Host.Outcome.next (goodBlock_beginBlock_of_answer up whole rfl)
  case status =>
    have reply := goodBlock_beginBlock_of_answer (owner := fun t => (t, .ok, queryStatusBody t)) (kind := 6) (number := number)
      up whole rfl
    rw [queryStatusBody_heard up] at reply
    exact congrArg Host.Outcome.next reply

/-- Settles O53: the closings are those of the open transmissions in turn, and the lamp follows the link. -/
theorem linkLossClosesTheTransmissions : Obligations.LinkLossClosesTheTransmissions := by
  unfold Obligations.LinkLossClosesTheTransmissions
  intro s due close u
  have closed : closeAllReported s = u := by
    unfold closeAllReported
    simp only [reportClosing_eq, u, close]
    cases s.uplink.deadline <;> cases s.uplink.region <;> cases s.uplink.background <;> rfl
  have frame : u = { s with store := u.store, uplink.bgOrder := u.uplink.bgOrder } := by
    rw [← closed, closeAllReported_eq]
    simp only [reportClosing_eq]
    exact foldl_closedOn_eq _ s
  let w : State := { s with
    store := u.store
    uplink := { s.uplink with deadline := none, region := none, background := none, clearAborts := [], replies := [],
                              regions := [], bgOrder := u.uplink.bgOrder }
    link := { s.link with state := .aligning, goodRun := 0, lossTimer := none }
    port.flags := s.port.flags ||| (1#16 <<< 4) }
  have down : linkDown s = followLamp w := by
    rw [linkDown, closed]
    conv_lhs => rw [frame]
    rfl
  refine ⟨fun early => ?_, fun expired => ⟨followLamp w, ?_, followLamp_eq w, followLamp_state w⟩⟩
  · have notDue : lossTimerDue s = false := Bool.eq_false_iff.mpr (mt lossTimerDue_iff.mp early)
    simp only [exec, execLossTimerExpiry, notDue, Bool.false_eq_true, if_false]
  · simp only [exec, execLossTimerExpiry, lossTimerDue_iff.mpr expired, if_true, down]
end

section
/-! The line port: requests taken and the bus (O54), READ RESPONSE (O55), SET MODE (O56), CONFIGURE (O57), CLEAR (O59). -/

namespace Sys2Proof.Machine

open Sys2Proof.Safety

/-! ## Sequences of commands -/

theorem leads_append {l m : List Instr} {s t : State} : Leads (l ++ m) s t ↔ ∃ u, Leads l s u ∧ Leads m u t := by
  induction l generalizing s with
  | nil => simp [Leads]
  | cons c l ih =>
    simp only [List.cons_append, Leads, ih]
    exact ⟨fun ⟨u, now, v, later, rest⟩ => ⟨v, ⟨u, now, later⟩, rest⟩, fun ⟨v, ⟨u, now, later⟩, rest⟩ => ⟨u, now, v, later, rest⟩⟩

theorem leads_cons_next {c : Instr} {l : List Instr} {s t u : State} (next : exec c s = .next u) :
    Leads (c :: l) s t ↔ Leads l u t := by
  simp only [Leads, next, Host.Outcome.next.injEq]
  exact ⟨fun ⟨v, same, rest⟩ => same ▸ rest, fun rest => ⟨u, rfl, rest⟩⟩

theorem leads_map_iff {α : Type} {c : α → Instr} {f : State → α → State} (each : ∀ t a, exec (c a) t = .next (f t a))
    (l : List α) {s t : State} : Leads (l.map c) s t ↔ t = l.foldl f s := by
  induction l generalizing s with
  | nil => rfl
  | cons a l ih => rw [List.map_cons, leads_cons_next (each s a), ih, List.foldl_cons]

/-- A transaction event by event: chip select, the bytes, the release (R175). -/
theorem leads_bus_iff (bytes : List Byte) {s t : State} :
    Leads ([.writeRequest .chipSelect] ++ bytes.map (fun b => .writeRequest (.busByte b)) ++ [.writeRequest .release]) s t
      ↔ releaseSelect (bytes.foldl (fun u b => shiftByte b u) (assertSelect s)) = t := by
  rw [leads_append]
  simp only [List.singleton_append]
  constructor
  · rintro ⟨u, start, v, done, same⟩
    rw [leads_cons_next (u := assertSelect s) rfl, leads_map_iff (f := fun u b => shiftByte b u) fun _ _ => rfl] at start
    cases done
    rw [← start, same]
  · intro same
    refine ⟨_, (leads_cons_next rfl).mpr ((leads_map_iff (f := fun u b => shiftByte b u) (fun _ _ => rfl) bytes).mpr rfl), ?_⟩
    exact ⟨t, congrArg Host.Outcome.next same, rfl⟩

/-! ## Taking a request (R176, R177) -/

section

variable (s : State)

theorem exec_command_of_line (r : LineRequest) : exec r.command s = .next (takeRequest r s) := by
  cases r <;> rfl

theorem answerMark_port (m : KeepMark) (v : Bool) (target : Byte) (n tag : Word16) :
    (answerMark m v target n tag s).1.port = s.port := by
  unfold answerMark answerMarkFrame
  split
  · split
    · rfl
    · dsimp only
      split
      · rfl
      · exact updFrame_port ..
  · split
    · split
      · rfl
      · rfl
      · exact List.foldlRecOn (motive := fun t : State => t.port = s.port) _ _ rfl fun t same p _ => (updFrame_port ..).trans same
    · rfl

theorem enterMode_refused (m : Mode) : (enterMode m s).port.refused = s.port.refused := by
  have skipped := congrArg LinePort.refused (Ordinary.skipAllQueued { s with port.mode := m }).port
  unfold enterMode
  cases m with
  | run =>
    dsimp only
    rw [followLamp_port]
  | trackOnly =>
    dsimp only at skipped ⊢
    rw [followLamp_port, skipped]
  | halt =>
    dsimp only at skipped ⊢
    rw [followLamp_port, swapIfPending_eq, skipped]

theorem answerCommitPlan_refused (bank : Byte) : (answerCommitPlan bank s).1.port.refused = s.port.refused := by
  have valid (n : BankName) (v : Bool) : (setValid n v s).port = s.port := by cases n <;> rfl
  obtain same | ⟨n, -, ⟨x, -, same⟩ | ⟨-, same | ⟨-, -, same⟩ | ⟨-, -, same⟩⟩⟩ := answerCommitPlan_cases s bank
  all_goals rw [same]
  · rw [valid]
  · rw [valid]
  · exact (congrArg LinePort.refused (valid n true) : (setValid n true s).port.refused = _)
  · exact congrArg LinePort.refused (valid n true)

/-- No owner touches REFUSED (R178). -/
theorem ownerAnswer_refused (r : LineRequest) : (ownerAnswer r s).1.port.refused = s.port.refused := by
  cases r with
  | readStatus => rfl
  | setMode mode =>
    obtain same | ⟨m, same, -, -⟩ := answerSetMode_cases s mode
    · exact congrArg (fun t : State => t.port.refused) same
    · exact (congrArg (fun t : State => t.port.refused) same).trans (enterMode_refused s m)
  | configure items =>
    obtain same | ⟨c, same, -⟩ := answerConfigure_cases s items
    · exact congrArg (fun t : State => t.port.refused) same
    · exact (congrArg (fun t : State => t.port.refused) same).trans rfl
  | readConfiguration => rfl
  | writePlan p =>
    obtain same | ⟨n, -, -, same⟩ := answerWritePlan_cases s p
    · exact congrArg (fun t : State => t.port.refused) same
    · exact (congrArg (fun t : State => t.port.refused) same).trans (by simp)
  | commitPlan bank => exact answerCommitPlan_refused s bank
  | readPlan bank =>
    show (answerReadPlan bank s).1.port.refused = _
    unfold answerReadPlan
    split <;> rfl
  | announceItem back =>
    show (answerAnnounceItem back s).1.port.refused = _
    unfold answerAnnounceItem
    dsimp only
    split_ifs
    · rfl
    · rfl
    · rfl
    · rfl
    · rw [createItem_eq]
      rfl
  | voidItem mode n => exact (Ordinary.answerVoidItem mode n s).refused
  | forceDecision mode n action => exact (Ordinary.answerForceDecision mode n action s).refused
  | readItem mode n => exact (Ordinary.answerItemView mode n s).refused
  | keep target n tag => exact congrArg LinePort.refused (answerMark_port s .k1 true target n tag)
  | release target n tag => exact congrArg LinePort.refused (answerMark_port s .k1 false target n tag)
  | readEvents => rfl
  | clearEvents marks => rfl
  | setEvents marks => rfl
  | setEventEnables e => rfl
  | readCounts c =>
    show (answerReadCounts c s).1.port.refused = _
    unfold answerReadCounts
    split_ifs <;> rfl
  | clear =>
    show (clearAll s).port.refused = _
    rw [clearAll, followLamp_port]

theorem answerTaken_refused (r : LineRequest) : (answerTaken r s).1.port.refused = s.port.refused := by
  unfold answerTaken
  split
  · exact ownerAnswer_refused s r
  · rfl

/-- Where the bus stands, and what it has sent, is no matter to a whole transaction. -/
theorem transaction_bus (bytes : List Byte) (q : BusState) (l : List Byte) :
    transaction bytes { s with port.bus := q, port.spiOut := l } = transaction bytes s := by
  match bytes with
  | [] => rfl
  | [b] => rfl
  | b :: c :: rest => rfl

end

/-! ## The status byte (R178) -/

theorem statusBits_eq (ready busy refused reset attention : Bool) :
    let x := statusBit ready 7 ||| statusBit busy 6 ||| statusBit refused 5 ||| statusBit reset 4 ||| statusBit attention 3
    x.getLsbD 7 = ready ∧ x.getLsbD 6 = busy ∧ x.getLsbD 5 = refused ∧ x.getLsbD 4 = reset ∧ x.getLsbD 3 = attention
      ∧ x.extractLsb' 0 3 = 0 := by
  revert ready busy refused reset attention
  decide

section

variable {s : State}

theorem busy_eq_true_iff : busy s = true ↔ ∃ a, s.port.buffer = .busy a := by
  unfold busy
  cases s.port.buffer <;> simp

theorem busy_eq_false_iff : busy s = false ↔ ∀ a, s.port.buffer ≠ .busy a := by
  rw [← Bool.not_eq_true, busy_eq_true_iff, not_exists]

theorem ready_eq_true_iff : ready s = true ↔ ∃ a, s.port.buffer = .ready a := by
  unfold ready
  cases s.port.buffer <;> simp

/-! ## A write that is none of the nineteen requests (R176) -/

theorem requestLengthOk_of_unnamed {code length : Nat} (unnamed : code = 0 ∨ 19 < code) : requestLengthOk code length = false := by
  rcases unnamed with rfl | large
  · rfl
  · match code, large with
    | k + 20, _ => rfl

theorem transactionRequest_of_bad {code len : Byte} {payload : List Byte}
    (bad : code.toNat = 0 ∨ 19 < code.toNat ∨ payload.length ≠ len.toNat ∨ requestLengthOk code.toNat len.toNat = false) :
    transactionRequest (code :: len :: payload) = none := by
  dsimp only [transactionRequest]
  split_ifs with same
  · have badLength : requestLengthOk code.toNat payload.length = false := by
      rcases bad with zero | large | other | length
      · exact requestLengthOk_of_unnamed (.inl zero)
      · exact requestLengthOk_of_unnamed (.inr large)
      · exact absurd same other
      · exact same ▸ length
    rw [requestOf, badLength]
    rfl
  · rfl

theorem transaction_of_bad {code len : Byte} {payload : List Byte} (write : code ≠ 0)
    (bad : code.toNat = 0 ∨ 19 < code.toNat ∨ payload.length ≠ len.toNat ∨ requestLengthOk code.toNat len.toNat = false) :
    transaction (code :: len :: payload) s = badWrite code (sendZeros (payload.length + 2) s) := by
  simp only [transaction, if_neg write, transactionRequest_of_bad bad]

/-! ## The bytes of a transaction, one by one (R175) -/

theorem assertSelect_of_idle (idle : s.port.bus = .idle) : assertSelect s = { s with port.bus := .begun, port.spiOut := [] } := by
  simp only [assertSelect, idle]

theorem assertSelect_of_selected (selected : s.port.bus ≠ .idle) : assertSelect s = s := by
  unfold assertSelect
  cases bus : s.port.bus with
  | idle => exact absurd bus selected
  | _ => rfl

theorem shiftByte_of_idle {b : Byte} (idle : s.port.bus = .idle) : shiftByte b s = s := by
  simp only [shiftByte, idle]

theorem shiftByte_of_begun {b : Byte} (begun : s.port.bus = .begun) :
    shiftByte b s = sendByte 0 (if b = 0 then .reading else .writing [b]) s := by
  simp only [shiftByte, begun]

theorem shiftByte_of_writing {b : Byte} {l : List Byte} (writing : s.port.bus = .writing l) :
    shiftByte b s = sendByte 0 (.writing (l ++ [b])) s := by
  simp only [shiftByte, writing]

theorem shiftByte_of_sending {b : Byte} {z : Bool} {l : List Byte} (sending : s.port.bus = .sending z l) :
    shiftByte b s = sendBehindStatus z l s := by
  simp only [shiftByte, sending]

/-- The request buffer collects every byte of a WRITE REQUEST. -/
theorem foldl_shiftByte_of_writing {l : List Byte} (writing : s.port.bus = .writing l) (bytes : List Byte) :
    ∃ sent, bytes.foldl (fun u b => shiftByte b u) s = { s with port.bus := .writing (l ++ bytes), port.spiOut := sent } := by
  induction bytes generalizing s l with
  | nil =>
    refine ⟨s.port.spiOut, ?_⟩
    rw [List.append_nil, ← writing]
    rfl
  | cons b bytes ih =>
    rw [List.foldl_cons, shiftByte_of_writing writing]
    obtain ⟨sent, same⟩ := ih (s := sendByte 0 (.writing (l ++ [b])) s) rfl
    exact ⟨sent, by rw [same, List.append_assoc]; rfl⟩

/-- A READ RESPONSE that has sent its status byte and `k` bytes behind it (R175). -/
def readBehind (k : Nat) (s : State) : State :=
  { s with
    port.bus := .sending (busy s) ((responseBytes s).drop k)
    port.spiOut := (List.range (k + 2)).map (sentByte s)
    port.refused := false
    freeCtr := s.freeCtr + freeDrawn s (k + 2) }

theorem responseBytes_of_busy (held : busy s = true) : responseBytes s = [] := by
  obtain ⟨a, held⟩ := busy_eq_true_iff.mp held
  simp only [responseBytes, held]

theorem shiftByte_readBehind (b : Byte) (k : Nat) : shiftByte b (readBehind k s) = readBehind (k + 1) s := by
  have sent : (List.range (k + 1 + 2)).map (sentByte s) = (List.range (k + 2)).map (sentByte s) ++ [byteBehindStatus s k] := by
    rw [show k + 1 + 2 = (k + 2) + 1 from rfl, List.range_succ, List.map_append]
    rfl
  rw [shiftByte_of_sending (z := busy s) (l := (responseBytes s).drop k) rfl]
  unfold sendBehindStatus
  cases held : busy s with
  | true =>
    have none_ := responseBytes_of_busy held
    simp only [if_true, readBehind, sendByte, sent, byteBehindStatus, freeDrawn, held, none_, List.drop_nil, List.getElem?_nil]
  | false =>
    rw [if_neg Bool.false_ne_true]
    rcases Nat.lt_or_ge k (responseBytes s).length with inside | behind
    · have next : (responseBytes s).drop k = (responseBytes s)[k] :: (responseBytes s).drop (k + 1) :=
        List.drop_eq_getElem_cons inside
      have drawn (m : Nat) (small : m ≤ k + 1) : freeDrawn s (m + 2) = 0 := by
        rw [freeDrawn, held, if_neg Bool.false_ne_true]
        omega
      rw [next]
      simp only [readBehind, sendByte, sent, held, byteBehindStatus, List.getElem?_eq_getElem inside, drawn k (Nat.le_succ k),
        drawn (k + 1) le_rfl]
    · have drawn (m : Nat) : freeDrawn s (m + 2) = m - (responseBytes s).length := by
        rw [freeDrawn, held, if_neg Bool.false_ne_true]
        omega
      have more : k + 1 - (responseBytes s).length = k - (responseBytes s).length + 1 := by omega
      rw [List.drop_eq_nil_of_le behind]
      simp only [readBehind, sendByte, sent, held, byteBehindStatus, List.getElem?_eq_none behind, drawn, more,
        List.drop_eq_nil_of_le (Nat.le_succ_of_le behind), if_neg Bool.false_ne_true]
      rfl

theorem foldl_shiftByte_readBehind (l : List Byte) (k : Nat) :
    l.foldl (fun u b => shiftByte b u) (readBehind k s) = readBehind (k + l.length) s := by
  induction l generalizing k with
  | nil => rfl
  | cons b l ih => rw [List.foldl_cons, shiftByte_readBehind, ih, List.length_cons, Nat.add_right_comm, Nat.add_assoc]

theorem releaseSelect_readBehind (k : Nat) : releaseSelect (readBehind k s) = readResponse (k + 2) s := by
  have long : ¬ k + 2 < 2 := by omega
  rw [releaseSelect_of_not_writing _ fun _ other => BusState.noConfusion other, readResponse, decide_eq_false long, Bool.and_false]
  rfl

/-- A READ RESPONSE byte by byte ends where the whole transaction does (R175). -/
theorem read_byte_by_byte (idle : s.port.bus = .idle) (l : List Byte) :
    releaseSelect ((0 :: l).foldl (fun u b => shiftByte b u) (assertSelect s)) = readResponse (l.length + 1) s := by
  rw [assertSelect_of_idle idle, List.foldl_cons, shiftByte_of_begun rfl, if_pos rfl]
  cases l with
  | nil =>
    rw [List.foldl_nil, releaseSelect_of_not_writing _ fun _ other => BusState.noConfusion other, readResponse]
    have drawn : freeDrawn s ([] : List Byte).length.succ = 0 := by simp [freeDrawn]
    have kept : (s.port.refused && decide (([] : List Byte).length.succ < 2)) = s.port.refused := by simp
    simp only [sendByte, kept, drawn]
    rfl
  | cons b l =>
    rw [List.foldl_cons, shiftByte_of_reading _ _ rfl]
    have first : { sendByte (statusByte s) (.sending (busy s) (responseBytes s)) (sendByte 0 .reading
        { s with port.bus := .begun, port.spiOut := [] }) with port.refused := false } = readBehind 0 s := by
      have drawn : freeDrawn s 2 = 0 := by simp [freeDrawn]
      simp only [readBehind, sendByte, drawn, List.drop_zero]
      rfl
    refine (congrArg (fun u => releaseSelect (l.foldl (fun u b => shiftByte b u) u)) first).trans ?_
    rw [foldl_shiftByte_readBehind, releaseSelect_readBehind, Nat.zero_add]
    rfl

/-- A WRITE REQUEST byte by byte ends where the whole transaction does (R175). -/
theorem write_byte_by_byte (idle : s.port.bus = .idle) {bytes : List Byte} (write : bytes.head? ≠ some 0) :
    releaseSelect (bytes.foldl (fun u b => shiftByte b u) (assertSelect s)) = transaction bytes s := by
  rw [assertSelect_of_idle idle]
  cases bytes with
  | nil => rfl
  | cons b l =>
    have nonzero : b ≠ 0 := fun zero => write (by rw [List.head?_cons, zero])
    rw [List.foldl_cons, shiftByte_of_begun rfl, if_neg nonzero]
    obtain ⟨sent, same⟩ := foldl_shiftByte_of_writing (l := [b])
      (s := sendByte 0 (.writing [b]) { s with port.bus := .begun, port.spiOut := [] }) rfl l
    rw [same, releaseSelect_of_writing _ (b :: l) rfl]
    exact transaction_bus s (b :: l) _ _

end

end Sys2Proof.Machine

open Sys2Proof Sys2Proof.Machine Sys2Proof.Safety

/-- Settles O54: a whole transaction by what `transaction` makes of it, and the bus by one fold over its bytes. -/
theorem requestsAreTakenAndAnswered : Obligations.RequestsAreTakenAndAnswered := by
  unfold Obligations.RequestsAreTakenAndAnswered
  refine ⟨fun r s held => ?refused, fun r s free => ?taken, fun bytes s write => ⟨fun short => ?short,
    fun code len payload same bad => ⟨fun free => ?invalid, fun held => ?busy⟩⟩,
    fun s => ⟨fun a held => ?placed, fun free => ?vacant⟩, fun s => ?bus⟩
  case refused =>
    rw [exec_command_of_line, takeRequest_of_busy s r held, LineRequest.transaction, List.length_cons, List.length_cons,
      Nat.add_comm 2]
    rfl
  case taken =>
    rw [exec_command_of_line, takeRequest_of_free s r free]
    obtain ⟨ready, busy, -⟩ := statusBits_eq false true (holdAnswer r.code (answerTaken r (sendZeros r.transaction.length s))).port.refused
      (holdAnswer r.code (answerTaken r (sendZeros r.transaction.length s))).port.resetSeen
      (attention (holdAnswer r.code (answerTaken r (sendZeros r.transaction.length s))))
    exact ⟨_, _, _, rfl, rfl, answerTaken_refused _ r, busy, ready⟩
  case short =>
    have nonzero (b : Byte) (one : bytes = [b]) : b ≠ 0 := fun zero => write (by rw [one, zero]; rfl)
    match bytes with
    | [] => rfl
    | [b] =>
      show Host.Outcome.next (if b = 0 then _ else _) = _
      rw [if_neg (nonzero b rfl)]
      rfl
    | _ :: _ :: _ => exact absurd short (by simp)
  case invalid =>
    have nonzero : code ≠ 0 := fun zero => write (by rw [same, zero]; rfl)
    show Host.Outcome.next (transaction bytes s) = _
    rw [same, transaction_of_bad nonzero bad, badWrite, if_neg (by exact Bool.eq_false_iff.mp free), holdAnswer_sendZeros]
    rfl
  case busy =>
    have nonzero : code ≠ 0 := fun zero => write (by rw [same, zero]; rfl)
    show Host.Outcome.next (transaction bytes s) = _
    rw [same, transaction_of_bad nonzero bad, badWrite, if_pos (by exact held)]
    rfl
  case placed =>
    show Host.Outcome.next (placeResponse s) = _
    simp only [placeResponse, held]
  case vacant =>
    show Host.Outcome.next (placeResponse s) = _
    unfold placeResponse
    split
    · exact absurd ‹_› (busy_eq_false_iff.mp free _)
    · rfl
    · rfl
  case bus =>
    intro event
    refine ⟨fun idle => ⟨?_, ?_, fun b => ?_⟩, fun selected => ?_, fun b begun nonzero => ?_, fun l writing => ⟨?_, fun b => ?_⟩,
      fun bytes t idle write => ?_⟩
    · exact congrArg Host.Outcome.next (assertSelect_of_idle idle)
    · show Host.Outcome.next (releaseSelect s) = _
      simp only [releaseSelect, idle]
    · exact congrArg Host.Outcome.next (shiftByte_of_idle idle)
    · exact congrArg Host.Outcome.next (assertSelect_of_selected selected)
    · show Host.Outcome.next (shiftByte b s) = _
      rw [shiftByte_of_begun begun, if_neg nonzero]
      rfl
    · exact congrArg Host.Outcome.next (releaseSelect_of_writing s l writing)
    · exact congrArg Host.Outcome.next (shiftByte_of_writing writing)
    · rw [leads_bus_iff, write_byte_by_byte idle write]
      exact Host.Outcome.next.injEq _ _ ▸ Iff.rfl

/-- Settles O55: a READ RESPONSE sends `sentByte` place by place, whole or byte by byte. -/
theorem readResponseSendsWhatIsHeld : Obligations.ReadResponseSendsWhatIsHeld := by
  unfold Obligations.ReadResponseSendsWhatIsHeld
  refine ⟨fun n s => ⟨readResponse n s, rfl, rfl, ?refused, ?length, fun some_ => ?zero, fun two => ?status,
    fun a k held behind inside => ?busy, fun vacant three => ?vacant, fun r k held inside => ⟨?_, fun b behind found => ?_⟩⟩,
    fun s => ?statusByte, fun b s => ?events⟩
  case refused =>
    show (s.port.refused && decide (n < 2)) = _
    split_ifs with short <;> simp [short]
  case length => simp [readResponse]
  case zero => simp [readResponse, some_, sentByte]
  case status => simp [readResponse, two, sentByte]
  case busy =>
    obtain ⟨k, rfl⟩ := Nat.exists_eq_add_of_le' behind
    simp [readResponse, inside, sentByte, byteBehindStatus, responseBytes, held, Machine.busy]
  case vacant => simp [readResponse, three, sentByte, byteBehindStatus, responseBytes, vacant]
  · rintro rfl
    simp [readResponse, inside, sentByte, byteBehindStatus, responseBytes, held]
  · obtain ⟨k, rfl⟩ := Nat.exists_eq_add_of_le' behind
    rw [Nat.add_sub_cancel] at found
    simp [readResponse, inside, sentByte, byteBehindStatus, responseBytes, held, found]
  case statusByte =>
    obtain ⟨seven, six, five, four, three, low⟩ := statusBits_eq (ready s) (Machine.busy s) s.port.refused s.port.resetSeen (attention s)
    refine ⟨?_, ?_, five, four, ?_, low, ?_⟩
    · exact (iff_of_eq (congrArg (· = true) seven)).trans ready_eq_true_iff
    · exact (iff_of_eq (congrArg (· = true) six)).trans busy_eq_true_iff
    · exact (iff_of_eq (congrArg (· = true) three)).trans attention_iff
    · rintro ⟨isReady, isBusy⟩
      obtain ⟨r, held⟩ := ready_eq_true_iff.mp (seven.symm.trans isReady)
      obtain ⟨a, also⟩ := busy_eq_true_iff.mp (six.symm.trans isBusy)
      rw [held] at also
      cases also
  case events =>
    intro event sends held
    refine ⟨fun begun => ?_, fun reading => ?_, fun l sending => ?_, fun x l sending => ?_, fun sending => ?_, fun notWriting => ?_,
      fun l t idle => ?_⟩
    · exact congrArg Host.Outcome.next (shiftByte_of_begun begun)
    · exact congrArg Host.Outcome.next (shiftByte_of_reading s b reading)
    · exact congrArg Host.Outcome.next (shiftByte_of_sending sending)
    · exact congrArg Host.Outcome.next (shiftByte_of_sending sending)
    · exact ⟨_, _, congrArg Host.Outcome.next (shiftByte_of_sending sending), rfl⟩
    · exact congrArg Host.Outcome.next (releaseSelect_of_not_writing s notWriting)
    · rw [leads_bus_iff, read_byte_by_byte idle]
      exact Host.Outcome.next.injEq _ _ ▸ Iff.rfl
end

section
/-! SET MODE (O56), CONFIGURE (O57) and CLEAR (O59). -/

namespace Sys2Proof.Machine

open Sys2Proof.Safety

/-! ## Leaving RUN (R82) -/

/-- A queued trigger of a station is for the record: it names its tag, and some record carries its tag and bank. -/
def queuedAt (s : State) (st : Station) (j : Item) : Bool :=
  s.trig[st].queue.any fun e => e.tag == j.tag && (liveItem? e.tag e.bank s).isSome

/-- A record once every queued trigger has been removed (R82). -/
def unqueued (s : State) (j : Item) : Item :=
  j.withStations .skipped (fun st => queuedAt s st j) allStations

section

variable {s t : State}

theorem isSome_liveItem?_iff {tag : Tag} {bank : BankName} :
    (liveItem? tag bank s).isSome = true ↔ ∃ i ∈ s.queue.items, i.tag = tag ∧ i.bank = bank := by
  simp [liveItem?, List.find?_isSome]

/-- Whether a tag and a bank are live is read from tags and banks alone. -/
theorem isSome_liveItem?_map {f : Item → Item} (tagKept : ∀ j, (f j).tag = j.tag) (bankKept : ∀ j, (f j).bank = j.bank)
    (items : t.queue.items = s.queue.items.map f) (tag : Tag) (bank : BankName) :
    (liveItem? tag bank t).isSome = (liveItem? tag bank s).isSome := by
  rw [Bool.eq_iff_iff, isSome_liveItem?_iff, isSome_liveItem?_iff, items]
  simp [tagKept, bankKept]

theorem Item.bank_withStation (i : Item) (st : Station) (o : StationOutcome) : (i.withStation st o).bank = i.bank := by
  rw [Item.withStation_eq]

/-- A station skipped twice is skipped once. -/
theorem Item.withStation_withStation_skipped (i : Item) (st : Station) :
    (i.withStation st .skipped).withStation st .skipped = i.withStation st .skipped := by
  simp only [Item.withStation]
  split
  next last => simp [Item.unresolved, Vector.set_set]
  next open_ => 
    simp only [Vector.set_set]
    rw [if_neg open_]

/-- The queued triggers of one station removed: the records that they name become SKIPPED there. -/
theorem foldl_skip (st : Station) (l : List TriggerEntry) (s : State) :
    l.foldl (fun t e => if (liveItem? e.tag e.bank t).isSome then setStation e.tag st .skipped t else t) s = { s with
      queue.items := s.queue.items.map fun j =>
        if (l.any fun e => e.tag == j.tag && (liveItem? e.tag e.bank s).isSome) then j.withStation st .skipped else j } := by
  induction l generalizing s with
  | nil => simp
  | cons e l ih =>
    rw [List.foldl_cons]
    cases live : (liveItem? e.tag e.bank s).isSome with
    | false =>
      rw [if_neg Bool.false_ne_true, ih]
      simp [live]
    | true =>
      have alive := isSome_liveItem?_map (s := s) (t := setStation e.tag st .skipped s)
        (f := fun j => if j.tag = e.tag then j.withStation st .skipped else j)
        (fun j => by split_ifs <;> simp [Item.tag_withStation]) (fun j => by split_ifs <;> simp [Item.bank_withStation]) rfl
      rw [if_pos rfl, ih]
      simp only [alive]
      have items : ((setStation e.tag st .skipped s).queue.items.map fun j =>
            if (l.any fun e => e.tag == j.tag && (liveItem? e.tag e.bank s).isSome) then j.withStation st .skipped else j)
          = s.queue.items.map fun j =>
            if ((e :: l).any fun e => e.tag == j.tag && (liveItem? e.tag e.bank s).isSome) then j.withStation st .skipped else j := by
        show List.map _ (List.map _ _) = _
        rw [List.map_map]
        refine List.map_congr_left fun j _ => ?_
        rw [List.any_cons, live, Bool.and_true]
        by_cases own : j.tag = e.tag
        · simp [own, Item.tag_withStation, Item.withStation_withStation_skipped]
        · have other : (e.tag == j.tag) = false := beq_eq_false_iff_ne.mpr (Ne.symm own)
          simp [own, other]
      rw [items]
      rfl

theorem skipQueued_eq (st : Station) (s : State) : skipQueued st s = { s with
    trig := s.trig.set st.val { s.trig[st] with queue := [] } st.isLt
    queue.items := s.queue.items.map fun j => if queuedAt s st j then j.withStation st .skipped else j } := by
  rw [skipQueued, foldl_skip]
  rfl

theorem queuedAt_congr {st : Station} {j k : Item} (queue : t.trig[st].queue = s.trig[st].queue)
    (alive : ∀ tag bank, (liveItem? tag bank t).isSome = (liveItem? tag bank s).isSome) (tag : j.tag = k.tag) :
    queuedAt t st j = queuedAt s st k := by
  unfold queuedAt
  rw [queue, tag]
  simp only [alive]

/-- The queued triggers of some stations removed, from the first to the last. -/
theorem foldl_skipQueued {l : List Station} (once : l.Nodup) (s : State) :
    ∃ trig : Vector StationTriggers 8, (∀ st : Station, trig[st] = if st ∈ l then { s.trig[st] with queue := [] } else s.trig[st])
      ∧ l.foldl (fun t st => skipQueued st t) s = { s with
        trig := trig
        queue.items := s.queue.items.map fun j => j.withStations .skipped (fun st => queuedAt s st j) l } := by
  induction l using List.reverseRecOn with
  | nil => exact ⟨s.trig, fun st => by simp, by simp [Item.withStations]⟩
  | append_singleton l b ih =>
    obtain ⟨onceL, -, apart⟩ := List.nodup_append.mp once
    have new : b ∉ l := fun member => apart b member b (by simp) rfl
    obtain ⟨trig, station, same⟩ := ih onceL
    rw [List.foldl_append, List.foldl_cons, List.foldl_nil, same, skipQueued_eq]
    have own : trig[b] = s.trig[b] := by rw [station, if_neg new]
    refine ⟨trig.set b.val { s.trig[b] with queue := [] } b.isLt, fun st => ?_, ?_⟩
    · by_cases here : st = b
      · subst here
        simp
      · have apart_ : b.val ≠ st.val := fun h => here (Fin.ext h.symm)
        have := station st
        simp only [Fin.getElem_fin] at this ⊢
        rw [Vector.getElem_set_ne _ _ apart_, this]
        simp [here]
    · have alive := isSome_liveItem?_map (s := s)
        (t := { s with
          trig := trig
          queue.items := s.queue.items.map fun j => j.withStations .skipped (fun st => queuedAt s st j) l })
        (f := fun j => j.withStations .skipped (fun st => queuedAt s st j) l)
        (fun j => by rw [Item.withStations_eq]) (fun j => by rw [Item.withStations_eq]) rfl
      have queued (j : Item) : queuedAt { s with
          trig := trig
          queue.items := s.queue.items.map fun j => j.withStations .skipped (fun st => queuedAt s st j) l } b
            (j.withStations .skipped (fun st => queuedAt s st j) l) = queuedAt s b j := by
        exact queuedAt_congr (congrArg StationTriggers.queue own) alive (by rw [Item.withStations_eq])
      have items : (s.queue.items.map fun j => j.withStations .skipped (fun st => queuedAt s st j) l).map (fun j =>
          if queuedAt { s with
            trig := trig
            queue.items := s.queue.items.map fun j => j.withStations .skipped (fun st => queuedAt s st j) l } b j
          then j.withStation b .skipped else j)
          = s.queue.items.map fun j => j.withStations .skipped (fun st => queuedAt s st j) (l ++ [b]) := by
        rw [List.map_map]
        refine List.map_congr_left fun j _ => ?_
        rw [Function.comp_apply, queued]
        simp [Item.withStations]
      rw [items]
      simp only [own]

theorem skipAllQueued_eq (s : State) : skipAllQueued s = { s with
    trig := onEach (fun t => { t with queue := [] }) s.trig
    queue.items := s.queue.items.map (unqueued s) } := by
  obtain ⟨trig, station, same⟩ := foldl_skipQueued nodup_allStations s
  have trigs : trig = onEach (fun t => { t with queue := [] }) s.trig := by
    refine Vector.ext fun k inside => ?_
    have := station ⟨k, inside⟩
    rw [if_pos (mem_allStations _)] at this
    exact this.trans (onEach_getElem (fun t => { t with queue := [] }) s.trig ⟨k, inside⟩).symm
  rw [skipAllQueued, same, trigs]
  rfl

theorem onEach_withoutQueue (v : Vector StationTriggers 8) (st : Station) :
    (onEach (fun t => { t with queue := [] }) v)[st] = { v[st] with queue := [] } := by
  rw [onEach_getElem]

/-- With the tags apart, a queued trigger is for a record that carries its tag and bank. -/
theorem unqueued_eq_withoutQueued (apart : (s.queue.items.map Item.tag).Nodup) {j : Item} (member : j ∈ s.queue.items) :
    unqueued s j = withoutQueued s j := by
  have queued (st : Station) : queuedAt s st j = s.trig[st].queue.any fun e => e.tag == j.tag && e.bank == j.bank := by
    refine congrArg (fun test => s.trig[st].queue.any test) (funext fun e => ?_)
    by_cases own : e.tag = j.tag
    · have live : (liveItem? e.tag e.bank s).isSome = (e.bank == j.bank) := by
        rw [Bool.eq_iff_iff, isSome_liveItem?_iff, beq_iff_eq]
        refine ⟨fun ⟨i, inside, tag, bank⟩ => ?_, fun bank => ⟨j, member, own.symm, bank.symm⟩⟩
        rw [← List.inj_on_of_nodup_map apart inside member (tag.trans own), bank]
      rw [live]
    · have other : (e.tag == j.tag) = false := beq_eq_false_iff_ne.mpr own
      rw [other]
      rfl
  unfold unqueued withoutQueued Item.withStations
  simp only [queued]
  rfl

/-- Every record that a removed trigger was for is SKIPPED at the station. -/
theorem skipped_of_unqueued {st : Station} {e : TriggerEntry} {j : Item} (queued : e ∈ s.trig[st].queue)
    (member : j ∈ s.queue.items) (tag : j.tag = e.tag) (bank : j.bank = e.bank) : (unqueued s j).stations[st] = .skipped := by
  have hit : queuedAt s st j = true := by
    refine List.any_eq_true.mpr ⟨e, queued, ?_⟩
    rw [isSome_liveItem?_iff.mpr ⟨j, member, tag, bank⟩, tag, beq_self_eq_true]
    rfl
  rw [unqueued, Item.stations_withStations, if_pos ⟨mem_allStations st, hit⟩]

/-! ## SET MODE by its cases (R180) -/

theorem exec_setMode_of_answer {b : Byte} {u : State} {r : Result} {body : List Byte} (free : busy s = false)
    (answer : answerSetMode b (sendZeros 3 s) = (u, r, body)) :
    exec (.setMode b) s = .next (holdAnswer 2 (u, r, body)) := by
  rw [← answer]
  exact congrArg Host.Outcome.next (takeRequest_of_free s (.setMode b) free)

theorem modeOf_eq_none {n : Nat} (large : 3 ≤ n) : modeOf n = none := by
  match n, large with
  | n + 3, _ => rfl

theorem modeOf_code (m : Mode) : modeOf m.code.toNat = some m := by
  cases m <;> rfl

theorem answerSetMode_of_code (m : Mode) : answerSetMode m.code s = match judgeMode m s with
    | (result, true) => (enterMode m s, result, [s.port.mode.code, m.code])
    | (result, false) => (s, result, [s.port.mode.code, s.port.mode.code]) := by
  simp only [answerSetMode, modeOf_code] <;> rfl

theorem answerSetMode_of_same : answerSetMode s.port.mode.code s = (s, .ok, [s.port.mode.code, s.port.mode.code]) := by
  simp only [answerSetMode_of_code, judgeMode, if_true]

theorem answerSetMode_of_occupied (moves : .halt ≠ s.port.mode) (occupied : s.queue.items ≠ []) :
    answerSetMode 2 s = (s, .notEmpty, [s.port.mode.code, s.port.mode.code]) := by
  have := answerSetMode_of_code (s := s) .halt
  rw [judgeMode, if_neg moves, if_pos ⟨rfl, occupied⟩] at this
  exact this

theorem answerSetMode_of_noPlan {m : Mode} (moves : m ≠ s.port.mode) (halt : s.port.mode = .halt)
    (invalid : (bankOf s.plans.active s).valid = false) :
    answerSetMode m.code s = (s, .planInvalid, [s.port.mode.code, s.port.mode.code]) := by
  have leaves : m ≠ .halt := halt ▸ moves
  rw [answerSetMode_of_code, judgeMode, if_neg moves, if_neg (fun h => leaves h.1), if_pos ⟨halt, by simp [invalid]⟩]

theorem answerSetMode_of_moves {m : Mode} (moves : m ≠ s.port.mode) (empty : m = .halt → s.queue.items = [])
    (valid : s.port.mode = .halt → (bankOf s.plans.active s).valid = true) :
    answerSetMode m.code s = (enterMode m s, .ok, [s.port.mode.code, m.code]) := by
  have unoccupied : ¬ (m = .halt ∧ s.queue.items ≠ []) := fun h => h.2 (empty h.1)
  have planned : ¬ (s.port.mode = .halt ∧ (!(bankOf s.plans.active s).valid) = true) := fun h => by simp [valid h.1] at h
  rw [answerSetMode_of_code, judgeMode, if_neg moves, if_neg unoccupied, if_neg planned]

/-! ## CONFIGURE (R182) -/

theorem getElem?_foldl_set {l : List (Nat × Nat)} {v : List Nat} {k old : Nat} (found : v[k]? = some old) :
    (l.foldl (fun v p => v.set p.1 p.2) v)[k]? = some (((l.reverse.find? fun p => p.1 == k).map Prod.snd).getD old) := by
  induction l using List.reverseRecOn with
  | nil => exact found
  | append_singleton l p ih =>
    rw [List.foldl_append, List.foldl_cons, List.foldl_nil, List.getElem?_set, List.reverse_append, List.reverse_singleton,
      List.singleton_append, List.find?_cons]
    by_cases own : p.1 = k
    · have inside : p.1 < (l.foldl (fun v p => v.set p.1 p.2) v).length := by
        rw [own]
        exact (List.getElem?_eq_some_iff.mp ih).1
      simp [own, own ▸ inside]
    · have other : (p.1 == k) = false := beq_eq_false_iff_ne.mpr own
      rw [if_neg own, ih, other]

/-- The number and the value of a setting item. -/
def SettingItem.numbered (i : SettingItem) : Nat × Nat :=
  (i.number.toNat, i.value.toNat)

theorem writeAll_of_ok {items : List SettingItem} (ok : ∀ i ∈ items, settingOk i.number.toNat i.value.toNat) (c : Settings)
    (place : Nat) : ∃ d, c.writeAll items place = .ok d
      ∧ d.values = (items.map SettingItem.numbered).foldl (fun v p => v.set p.1 p.2) c.values := by
  induction items generalizing c place with
  | nil => exact ⟨c, rfl, rfl⟩
  | cons i rest ih =>
    obtain ⟨d, written⟩ := Option.isSome_iff_exists.mp ((isSome_write_iff c _ _).mpr (ok i List.mem_cons_self))
    obtain ⟨e, all, values⟩ := ih (fun j member => ok j (List.mem_cons_of_mem i member)) d (place + 1)
    refine ⟨e, by rw [Settings.writeAll, written]; exact all, ?_⟩
    rw [values, values_write d written]
    rfl

theorem writeAll_of_bad {before : List SettingItem} {i : SettingItem} {after : List SettingItem}
    (ok : ∀ j ∈ before, settingOk j.number.toNat j.value.toNat) (bad : ¬ settingOk i.number.toNat i.value.toNat) (c : Settings)
    (place : Nat) : c.writeAll (before ++ i :: after) place = .error (place + before.length) := by
  induction before generalizing c place with
  | nil =>
    have refused : c.write i.number.toNat i.value.toNat = none :=
      Option.not_isSome_iff_eq_none.mp (mt (isSome_write_iff c _ _).mp bad)
    rw [List.nil_append, Settings.writeAll, refused]
    rfl
  | cons j rest ih =>
    obtain ⟨d, written⟩ := Option.isSome_iff_exists.mp ((isSome_write_iff c _ _).mpr (ok j List.mem_cons_self))
    rw [List.cons_append, Settings.writeAll, written]
    refine (ih (fun k member => ok k (List.mem_cons_of_mem j member)) d (place + 1)).trans ?_
    rw [List.length_cons, Nat.add_right_comm, Nat.add_assoc]

theorem length_configure (items : List SettingItem) :
    (LineRequest.configure items).transaction.length = 2 + 4 * items.length := by
  have four (i : SettingItem) : i.bytes.length = 4 := rfl
  simp [LineRequest.transaction, LineRequest.payload, List.length_flatMap, four]
  omega

theorem exec_configure_of_answer {items : List SettingItem} {u : State} {r : Result} {body : List Byte} (free : busy s = false)
    (some_ : 1 ≤ items.length) (few : items.length ≤ 19)
    (answer : answerConfigure items (sendZeros (2 + 4 * items.length) s) = (sendZeros (2 + 4 * items.length) u, r, body)) :
    exec (.configure items) s = .next (taken (2 + 4 * items.length) (3 :: r.code :: body) u) := by
  refine congrArg Host.Outcome.next (takeRequest_of_answer free (length_configure items) ?_)
  rw [answerTaken, LineRequest.lengthOk, decide_eq_true some_, decide_eq_true few]
  exact answer

/-! ## CLEAR (R186) -/

theorem framesInUse_eq : framesInUse s = s.store.frames.toList.countP fun r => decide (r.state ≠ .free) :=
  List.countP_congr fun r _ => by simp

theorem mem_abortsAtClear_iff {u : Uplink} {a : Abort} : a ∈ abortsAtClear u ↔
    (∃ x, u.deadline = some x ∧ a = { kind := .deadline, frame := x.frame, number := 0, reason := .clear })
      ∨ (∃ x, u.region = some x ∧ a = { kind := .region, frame := x.frame, number := x.number, reason := .clear })
      ∨ (∃ x, u.background = some x ∧ a = { kind := .background, frame := x.frame, number := 0, reason := .clear }) := by
  simp only [abortsAtClear, List.mem_append, Option.mem_toList, Option.map_eq_some_iff, or_assoc, eq_comm (b := a)]

end

end Sys2Proof.Machine

open Sys2Proof Sys2Proof.Machine Sys2Proof.Safety

/-- Settles O56: the table of R180 case by case; leaving RUN is one pass over the records and one over the stations. -/
theorem setModeCases : Obligations.SetModeCases := by
  unfold Obligations.SetModeCases
  intro b m s free before valid
  refine ⟨fun large => ?invalid, fun same => ?same, fun moves halt occupied => ?occupied, fun moves halt noPlan => ?noPlan,
    fun moves empty planned => ?moves⟩
  case invalid =>
    exact exec_setMode_of_answer (u := sendZeros 3 s) (r := .invalid) (body := [before, before]) free
      (by simp only [answerSetMode, modeOf_eq_none large]; rfl)
  case same =>
    rw [same]
    exact exec_setMode_of_answer (b := before) free (answerSetMode_of_same (s := sendZeros 3 s))
  case occupied =>
    exact exec_setMode_of_answer free (answerSetMode_of_occupied (s := sendZeros 3 s) (halt ▸ moves) occupied)
  case noPlan =>
    exact exec_setMode_of_answer free (answerSetMode_of_noPlan (s := sendZeros 3 s) moves halt
      ((congrArg PlanBank.valid (bankOf_sendZeros _ 3 s)).trans noPlan))
  case moves =>
    have answer := answerSetMode_of_moves (s := sendZeros 3 s) moves empty
      fun halt => (congrArg PlanBank.valid (bankOf_sendZeros _ 3 s)).trans (planned halt)
    refine ⟨_, exec_setMode_of_answer free answer, ?_⟩
    have records (apart : (s.queue.items.map Item.tag).Nodup) : s.queue.items.map (unqueued s) = s.queue.items.map (withoutQueued s) :=
      List.map_congr_left fun j member => unqueued_eq_withoutQueued apart member
    have queues (apart : (s.queue.items.map Item.tag).Nodup) : ({ s.queue with items := s.queue.items.map (unqueued s) } : ItemQueue)
        = { s.queue with items := s.queue.items.map (withoutQueued s) } := by rw [records apart]
    have port (m : Mode) : unqueued { sendZeros 3 s with port.mode := m } = unqueued s := rfl
    have skips (st : Station) (e) (queued : e ∈ s.trig[st].queue) (i) (member : i ∈ s.queue.items.map (unqueued s))
        (tag : i.tag = e.tag) (bank : i.bank = e.bank) : i.stations[st] = .skipped := by
      obtain ⟨j, inside, rfl⟩ := List.mem_map.mp member
      have kept : unqueued s j = { j with stations := (unqueued s j).stations, phase := (unqueued s j).phase } :=
        j.withStations_eq
      rw [kept] at tag bank
      exact skipped_of_unqueued queued inside tag bank
    cases m with
    | run =>
      have entered : enterMode .run (sendZeros 3 s) = followLamp { sendZeros 3 s with port.mode := .run } := rfl
      rw [entered, followLamp_eq]
      exact ⟨rfl, rfl, fun _ => absurd rfl, fun _ => ⟨rfl, rfl⟩, absurd rfl, fun _ => ⟨rfl, rfl⟩, nofun⟩
    | trackOnly =>
      have entered : enterMode .trackOnly (sendZeros 3 s)
        = followLamp (skipAllQueued { sendZeros 3 s with port.mode := .trackOnly }) := rfl
      rw [entered, followLamp_eq, skipAllQueued_eq, port]
      exact ⟨rfl, rfl, fun apart _ => queues apart, nofun,
        fun _ st => ⟨onEach_withoutQueue _ st, skips st⟩, fun _ => ⟨rfl, rfl⟩, nofun⟩
    | halt =>
      have entered : enterMode .halt (sendZeros 3 s)
        = followLamp (swapIfPending (skipAllQueued { sendZeros 3 s with port.mode := .halt })) := rfl
      rw [entered, followLamp_eq, skipAllQueued_eq, swapIfPending_eq, port]
      refine ⟨rfl, rfl, fun apart _ => queues apart, nofun,
        fun _ st => ⟨onEach_withoutQueue _ st, skips st⟩, fun unswapped => ?_, fun _ pending => ?_⟩
      · have none_ : s.plans.pendingSwap = false := unswapped.resolve_left (absurd rfl)
        have kept : ({ s.plans with active := creationBank s, pendingSwap := false } : PlanStore) = s.plans := by
          rw [creationBank, ← none_, if_neg (by simp [none_])]
        exact ⟨kept, if_neg (by simp [none_])⟩
      · exact ⟨if_pos pending, rfl, if_pos pending⟩

/-- Settles O57: the items are written one after the other, and the last value that names a setting is the one that stays. -/
theorem configureIsAllOrNothing : Obligations.ConfigureIsAllOrNothing := by
  unfold Obligations.ConfigureIsAllOrNothing
  refine ⟨fun items s free some_ few => ?configure, fun s free => ⟨?read, rfl⟩⟩
  case configure =>
    intro n ok
    refine ⟨fun running => ?_, fun halt => ⟨fun before i after same good bad => ?_, fun good => ?_⟩⟩
    · exact exec_configure_of_answer (u := s) free some_ few (if_pos running)
    · refine exec_configure_of_answer (u := s) (r := .invalid) (body := [BitVec.ofNat 8 before.length]) free some_ few ?_
      have written : (sendZeros (2 + 4 * items.length) s).port.settings.writeAll items 0 = .error before.length := by
        rw [same, writeAll_of_bad good bad, Nat.zero_add]
      have inHalt : ¬ (sendZeros (2 + 4 * items.length) s).port.mode ≠ .halt := not_not_intro halt
      rw [answerConfigure, if_neg inHalt, written]
      rfl
    · obtain ⟨c, written, values⟩ := writeAll_of_ok good s.port.settings 0
      refine ⟨c, ?_, fun k old found => ?_⟩
      · have inHalt : ¬ (sendZeros (2 + 4 * items.length) s).port.mode ≠ .halt := not_not_intro halt
        refine exec_configure_of_answer (u := applySettings c s) (r := .ok) (body := c.bytes) free some_ few ?_
        have all : (sendZeros (2 + 4 * items.length) s).port.settings.writeAll items 0 = .ok c := written
        rw [answerConfigure, if_neg inHalt, all]
        rfl
      · rw [values, getElem?_foldl_set found, ← List.map_reverse, List.find?_map, Option.map_map]
        rfl
  case read => exact congrArg Host.Outcome.next (takeRequest_of_answer (r := .readConfiguration) (t := s) free rfl rfl)

/-- Settles O59: CLEAR unit by unit, as `clearAll` says it. -/
theorem clearStartsAgain : Obligations.ClearStartsAgain := by
  unfold Obligations.ClearStartsAgain
  intro s free used
  refine ⟨holdAnswer 19 (answerClear (sendZeros 2 s)), congrArg Host.Outcome.next (takeRequest_of_free s .clear free), ?_⟩
  have inUse : framesInUse (sendZeros 2 s) = used := framesInUse_eq
  rw [answerClear, clearAll, followLamp_eq, inUse]
  refine ⟨rfl, rfl, rfl, rfl, rfl, rfl, fun n => ?banks, fun st => ?triggers, fun p => ?ports, rfl, rfl, fullFreeList_map_val, rfl,
    fun id => ?frames, rfl, rfl, rfl, rfl, rfl, rfl, rfl, rfl, rfl, rfl, fun aligning => ?aligning, fun up a => ?up⟩
  case banks => cases n <;> rfl
  case triggers => exact Vector.getElem_replicate st.isLt
  case ports => exact Vector.getElem_replicate p.isLt
  case frames =>
    have freed : s.store.cleared.frames[id] = FrameRecord.freed := Vector.getElem_replicate id.isLt
    exact ⟨congrArg FrameRecord.state freed, congrArg FrameRecord.k0 freed, congrArg FrameRecord.k1 freed,
      congrArg FrameRecord.shedNote freed⟩
  case aligning =>
    show (match s.link.state with | .up => _ | .aligning => _) = _
    rw [aligning]
  case up =>
    show a ∈ (match s.link.state with | .up => s.uplink.clearAborts ++ abortsAtClear s.uplink | .aligning => []) ↔ _
    rw [up]
    exact List.mem_append.trans (or_congr_right mem_abortsAtClear_iff)
end

section
/-! The wire formats (chapter 12, O60). -/

namespace Sys2Proof.Machine

open Sys2Proof.Safety

/-! ## Numbers out of bytes and back -/

theorem word16_extract (w : Word16) : word16 (w.extractLsb' 8 8) (w.extractLsb' 0 8) = w := by
  refine BitVec.eq_of_getLsbD_eq fun k inside => ?_
  refine (BitVec.getLsbD_append (x := w.extractLsb' 8 8) (y := w.extractLsb' 0 8)).trans ?_
  rcases Nat.lt_or_ge k 8 with low | high
  · simp [low]
  · have rest : k - 8 < 8 := by omega
    simp [not_lt_of_ge high, rest, Nat.add_sub_of_le high]

theorem word24_extract (w : Word24) : word24 (w.extractLsb' 16 8) (w.extractLsb' 8 8) (w.extractLsb' 0 8) = w := by
  refine BitVec.eq_of_getLsbD_eq fun k inside => ?_
  refine (BitVec.getLsbD_append (x := w.extractLsb' 16 8 ++ w.extractLsb' 8 8) (y := w.extractLsb' 0 8)).trans ?_
  rw [BitVec.getLsbD_append]
  rcases Nat.lt_or_ge k 8 with low | high
  · simp [low]
  · rcases Nat.lt_or_ge (k - 8) 8 with middle | top
    · simp [not_lt_of_ge high, middle, Nat.add_sub_of_le high]
    · have rest : k - 8 - 8 < 8 := by omega
      have place : 16 + (k - 8 - 8) = k := by omega
      simp [not_lt_of_ge high, not_lt_of_ge top, rest, place]

theorem toList_eight {α : Type} (v : Vector α 8) : v.toList = [v[0], v[1], v[2], v[3], v[4], v[5], v[6], v[7]] := by
  obtain ⟨⟨l⟩, length⟩ := v
  match l, length with
  | [_, _, _, _, _, _, _, _], _ => rfl

/-! ## The requests of the line port (12.7) -/

theorem settingItems_bytes (items : List SettingItem) : settingItems (items.flatMap SettingItem.bytes) = items := by
  induction items with
  | nil => rfl
  | cons i rest ih =>
    show { number := i.number, value := word24 (i.value.extractLsb' 16 8) (i.value.extractLsb' 8 8) (i.value.extractLsb' 0 8) }
      :: settingItems (rest.flatMap SettingItem.bytes) = i :: rest
    rw [word24_extract, ih]

theorem planPayload_bytes (p : PlanPayload) : planPayload p.bytes = p := by
  have bytes : p.bytes = [p.bank] ++ ([p.stations[0], p.stations[1], p.stations[2], p.stations[3], p.stations[4],
      p.stations[5], p.stations[6], p.stations[7]].flatMap fun q => [q.flags] ++ split24 q.offset ++ [q.exposure])
        ++ split24 p.decision ++ split24 p.rejectGate ++ split24 p.reworkGate ++ split16 p.width ++ split24 p.exit := by
    rw [PlanPayload.bytes, toList_eight]
    rfl
  have stations : (Vector.ofFn fun k : Fin 8 => stationPayload p.bytes (1 + 5 * k.val)) = p.stations := by
    refine Vector.ext fun k inside => ?_
    rw [Vector.getElem_ofFn, bytes]
    interval_cases k
    all_goals simp [stationPayload, at3, at_, split24, word24_extract]
  rw [planPayload, stations, bytes]
  simp [at3, at2, at_, split24, split16, word24_extract, word16_extract]

/-- The payload of a request reads back as the request (12.7). -/
theorem requestOf_payload {r : LineRequest} (fits : r.lengthOk = true) : requestOf r.code r.payload = some r := by
  cases r with
  | readStatus => rfl
  | setMode mode => rfl
  | configure items =>
    obtain ⟨some_, few⟩ : 1 ≤ items.length ∧ items.length ≤ 19 := by simpa [LineRequest.lengthOk] using fits
    have four (i : SettingItem) : i.bytes.length = 4 := rfl
    have length : (items.flatMap SettingItem.bytes).length = 4 * items.length := by
      simp [List.length_flatMap, four, Nat.mul_comm]
    have lengthOk : requestLengthOk 3 (4 * items.length) = true := by
      simp [requestLengthOk, some_, few]
    show (if !requestLengthOk 3 (items.flatMap SettingItem.bytes).length then none
      else some (LineRequest.configure (settingItems (items.flatMap SettingItem.bytes)))) = _
    rw [length, lengthOk, settingItems_bytes]
    rfl
  | readConfiguration => rfl
  | writePlan plan =>
    show (if !requestLengthOk 5 plan.bytes.length then none else some (LineRequest.writePlan (planPayload plan.bytes))) = _
    rw [PlanPayload.length_bytes, planPayload_bytes]
    rfl
  | commitPlan bank => rfl
  | readPlan bank => rfl
  | announceItem back => exact congrArg (fun w => some (LineRequest.announceItem w)) (word16_extract back)
  | voidItem mode number => exact congrArg (fun w => some (LineRequest.voidItem mode w)) (word16_extract number)
  | forceDecision mode number action =>
    exact congrArg (fun w => some (LineRequest.forceDecision mode w action)) (word16_extract number)
  | readItem mode number => exact congrArg (fun w => some (LineRequest.readItem mode w)) (word16_extract number)
  | keep target number tag =>
    exact congrArg₂ (fun w v => some (LineRequest.keep target w v)) (word16_extract number) (word16_extract tag)
  | release target number tag =>
    exact congrArg₂ (fun w v => some (LineRequest.release target w v)) (word16_extract number) (word16_extract tag)
  | readEvents => rfl
  | clearEvents marks => exact congrArg (fun w => some (LineRequest.clearEvents w)) (word16_extract marks)
  | setEvents marks => exact congrArg (fun w => some (LineRequest.setEvents w)) (word16_extract marks)
  | setEventEnables enables => exact congrArg (fun w => some (LineRequest.setEventEnables w)) (word16_extract enables)
  | readCounts clearAfter => rfl
  | clear => rfl

theorem length_payload_lt {r : LineRequest} (fits : r.lengthOk = true) : r.payload.length < 256 := by
  cases r with
  | configure items =>
    have few : items.length ≤ 19 := by
      simp only [LineRequest.lengthOk, Bool.and_eq_true, decide_eq_true_eq] at fits
      exact fits.2
    have length := length_configure items
    simp only [LineRequest.transaction, List.length_cons] at length
    omega
  | writePlan plan =>
    show plan.bytes.length < 256
    rw [PlanPayload.length_bytes]
    decide
  | _ => exact of_decide_eq_true rfl

theorem transactionRequest_transaction {r : LineRequest} (fits : r.lengthOk = true) :
    transactionRequest r.transaction = some r := by
  have length : r.payload.length = (BitVec.ofNat 8 r.payload.length).toNat := by
    rw [BitVec.toNat_ofNat, Nat.mod_eq_of_lt (length_payload_lt fits)]
  show (if r.payload.length = (BitVec.ofNat 8 r.payload.length).toNat then requestOf r.code r.payload else none) = _
  rw [if_pos length, requestOf_payload fits]

theorem code_ne_zero (r : LineRequest) : r.code ≠ 0 := by
  cases r <;> exact of_decide_eq_true rfl

theorem transaction_of_request {r : LineRequest} (fits : r.lengthOk = true) (s : State) :
    transaction r.transaction s = takeRequest r s := by
  have reads := transactionRequest_transaction fits
  rw [LineRequest.transaction] at reads
  simp only [LineRequest.transaction, transaction, if_neg (code_ne_zero r), reads]

/-! ## The blocks of the office (12.6) -/

/-- The 64 bytes of a block with given fields: zeros up to byte 61, then the CRC-16 (R191). -/
def blockOf (f : List Byte) : List Byte :=
  (f ++ List.replicate (62 - f.length) 0) ++ split16 (crc16 (f ++ List.replicate (62 - f.length) 0))

theorem encodeBlock_eq (c : Instr) : encodeBlock c = (blockFields c).map blockOf := rfl

section

variable {f : List Byte}

theorem length_filled (short : f.length ≤ 62) : (f ++ List.replicate (62 - f.length) (0 : Byte)).length = 62 := by
  rw [List.length_append, List.length_replicate]
  omega

theorem length_blockOf (short : f.length ≤ 62) : (blockOf f).length = 64 := by
  rw [blockOf, List.length_append, length_filled short]
  rfl

theorem blockChecks_blockOf (short : f.length ≤ 62) : blockChecks (blockOf f) = true := by
  have filled := length_filled short
  have data : (blockOf f).take 62 = f ++ List.replicate (62 - f.length) 0 := List.take_left' filled
  have check (k : Nat) : at_ (blockOf f) (62 + k) = at_ (split16 (crc16 (f ++ List.replicate (62 - f.length) 0))) k := by
    rw [at_, blockOf, List.getD_append_right _ _ _ _ (by omega), filled, Nat.add_sub_cancel_left]
    rfl
  rw [blockChecks, data, at2, check 0, check 1, beq_iff_eq]
  exact (word16_extract _).symm

theorem blockCommand_blockOf (short : f.length ≤ 62) : blockCommand (blockOf f) = (officeRequest (blockOf f)).command := by
  have long : ¬ (blockOf f).length < 64 := by rw [length_blockOf short]; decide
  rw [blockCommand, if_neg long, if_pos (blockChecks_blockOf short)]

end

theorem officeRequest_of_unknown {kind n : Byte} {l : List Byte} (unknown : kindUnknown kind = true) :
    officeRequest (kind :: n :: l) = .unknown kind n := by
  have large : 7 ≤ kind.toNat := by simpa [kindUnknown] using unknown
  have first : (at_ (kind :: n :: l) 0).toNat = kind.toNat := rfl
  obtain ⟨k, same⟩ := Nat.exists_eq_add_of_le' large
  simp only [officeRequest, first, same]
  rfl

/-- The fields of an office request's block read back as the request (12.6). -/
theorem blockFields_readBack {c : Instr} {f : List Byte} (wellFormed : c.wellFormed = true) (fields : blockFields c = some f) :
    f.length ≤ 62 ∧ (officeRequest (blockOf f)).command = c := by
  cases c with
  | idleBlock n => cases fields; exact ⟨of_decide_eq_true rfl, rfl⟩
  | verdict n mode address action mask =>
    cases fields
    exact ⟨of_decide_eq_true rfl, congrArg (fun w => Instr.verdict n mode w action mask) (word16_extract address)⟩
  | keep master target number tag =>
    cases master with
    | lineController => cases fields
    | office n =>
      cases fields
      exact ⟨of_decide_eq_true rfl,
        congrArg₂ (fun w v => Instr.keep (.office n) target w v) (word16_extract number) (word16_extract tag)⟩
  | release master target number tag =>
    cases master with
    | lineController => cases fields
    | office n =>
      cases fields
      exact ⟨of_decide_eq_true rfl,
        congrArg₂ (fun w v => Instr.release (.office n) target w v) (word16_extract number) (word16_extract tag)⟩
  | fetchRegion n frame tag x y w h factor =>
    cases fields
    refine ⟨of_decide_eq_true rfl, ?_⟩
    have read (v : Word16) := word16_extract v
    show Instr.fetchRegion n (word16 (frame.extractLsb' 8 8) (frame.extractLsb' 0 8)) (word16 (tag.extractLsb' 8 8) (tag.extractLsb' 0 8))
      (word16 (x.extractLsb' 8 8) (x.extractLsb' 0 8)) (word16 (y.extractLsb' 8 8) (y.extractLsb' 0 8))
      (word16 (w.extractLsb' 8 8) (w.extractLsb' 0 8)) (word16 (h.extractLsb' 8 8) (h.extractLsb' 0 8)) factor = _
    rw [read frame, read tag, read x, read y, read w, read h]
  | queryItem n mode address =>
    cases fields
    exact ⟨of_decide_eq_true rfl, congrArg (fun w => Instr.queryItem n mode w) (word16_extract address)⟩
  | queryStatus n => cases fields; exact ⟨of_decide_eq_true rfl, rfl⟩
  | unknownRequestKind kind n =>
    cases fields
    exact ⟨of_decide_eq_true rfl, congrArg OfficeRequest.command (officeRequest_of_unknown wellFormed)⟩
  | _ => cases fields

/-! ## Layouts of several fields (12.4, 12.5) -/

/-- A field of a layout stands behind the fields before it. -/
theorem slice_flatten {fields : List (List Byte)} {k : Nat} {p : List Byte} (found : fields[k]? = some p) :
    slice fields.flatten ((fields.map List.length).take k).sum p.length = p := by
  induction fields generalizing k with
  | nil => cases found
  | cons q rest ih =>
    cases k with
    | zero =>
      cases found
      simp [slice]
    | succ k =>
      have later := ih (k := k) found
      simp only [slice] at later ⊢
      rw [List.map_cons, List.take_succ_cons, List.sum_cons, List.flatten_cons, List.drop_length_add_append, later]

/-- The last three fields of the 54-byte layout (12.5). -/
def Report.tail (r : Report) : List (List Byte) :=
  [(match r.kind with | .view => bytes4 r.toPoint | .decision => bytes4 r.position.toNat | .retire => bytes4 r.position.toNat),
    (match r.kind with | .view => zeros 4 | .decision => bytes4 r.time.toNat | .retire => bytes4 r.time.toNat),
    (match r.kind with | .decision => bytes2 r.speed | .view => zeros 2 | .retire => zeros 2)]

/-- The fields of the 54-byte layout, in order (12.5). -/
def Report.fields (r : Report) : List (List Byte) :=
  [[r.kind.code], bytes2 r.tag.val, [r.bank.code], bytes4 r.entry.toNat, [if r.kind = .decision then 0 else r.phase.code],
    verdictBytes r.verdict, actionBytes r.force, decisionBytes r.decision, [if r.kind = .decision then 0 else r.gateOutcome.code],
    [match r.kind with | .decision => flagByte r.autoKept | .view => BitVec.ofNat 8 r.depth | .retire => 0]]
  ++ (r.stations.toList.map StationEntry.bytes
    ++ r.tail)

/-- The lengths of the fields of the 54-byte layout. -/
def reportLengths : List Nat :=
  [1, 2, 1, 4, 1, 4, 2, 3, 1, 1, 3, 3, 3, 3, 3, 3, 3, 3, 4, 4, 2]

section

variable (r : Report)

theorem Report.bytes_eq : r.bytes = r.fields.flatten := by
  simp only [Report.bytes, Report.fields, Report.tail, List.flatten_append, List.flatten_cons, List.flatten_nil, List.append_assoc,
    List.append_nil, List.flatMap_def] <;> rfl

theorem StationEntry.length_bytes (e : StationEntry) : e.bytes.length = 3 := by
  unfold StationEntry.bytes
  split <;> rfl

theorem Report.lengths_eq : r.fields.map List.length = reportLengths := by
  have verdict (v : Option Verdict) : (verdictBytes v).length = 4 := by cases v <;> rfl
  have force (a : Option Action) : (actionBytes a).length = 2 := by cases a <;> rfl
  have decision (d : Option Decision) : (decisionBytes d).length = 3 := by cases d <;> rfl
  rw [Report.fields, Report.tail, toList_eight]
  simp only [List.map_append, List.map_cons, List.map_nil, verdict, force, decision, StationEntry.length_bytes]
  cases r.kind <;> rfl

theorem Report.field {k : Nat} {p : List Byte} (found : r.fields[k]? = some p) :
    slice r.bytes (reportLengths.take k).sum p.length = p := by
  rw [Report.bytes_eq, ← r.lengths_eq]
  exact slice_flatten found

theorem Report.field_tail {k : Nat} {p : List Byte} (found : r.tail[k]? = some p) :
    slice r.bytes (reportLengths.take (18 + k)).sum p.length = p := by
  refine r.field ?_
  rw [Report.fields, List.getElem?_append_right (by simp; omega), List.getElem?_append_right (by simp; omega), ← found]
  exact congrArg (r.tail[·]?) (by simp; omega)

theorem Report.field_station (st : Station) : slice r.bytes (20 + 3 * st.val) 3 = r.stations[st].bytes := by
  have place : (reportLengths.take (10 + st.val)).sum = 20 + 3 * st.val := by
    revert st
    decide
  have found : r.fields[10 + st.val]? = some r.stations[st].bytes := by
    rw [Report.fields, List.getElem?_append_right (by simp), List.getElem?_append_left (by simp)]
    simp
  have := r.field found
  rwa [place, StationEntry.length_bytes] at this

end

/-- The fields of a segment's header, in order (12.4). -/
def Segment.fields (g : Segment) : List (List Byte) :=
  [[g.kind.code], [(if g.last then 128 else 0) ||| (if g.pendingFault then 64 else 0)], bytes2 g.payload.length, bytes4 g.offset,
    bytes2 ((g.frame.map Fin.val).getD 0), [g.number], zeros 21, g.payload]

theorem Segment.bytes_eq (g : Segment) : g.bytes = g.fields.flatten := by
  simp only [Segment.bytes, Segment.fields, List.flatten_cons, List.flatten_nil, List.append_assoc, List.append_nil,
    List.cons_append, List.nil_append]

theorem Segment.field (g : Segment) {k : Nat} {p : List Byte} (inHeader : k ≤ 7) (found : g.fields[k]? = some p) :
    slice g.bytes (([1, 1, 2, 4, 2, 1, 21].take k).sum) p.length = p := by
  have lengths : (g.fields.map List.length).take k = [1, 1, 2, 4, 2, 1, 21].take k := by
    show ([1, 1, 2, 4, 2, 1, 21] ++ [g.payload.length]).take k = _
    exact List.take_append_of_le_length inHeader
  rw [Segment.bytes_eq, ← lengths]
  exact slice_flatten found

/-! ## Check values (R190, R191) -/

set_option maxRecDepth 4096 in
theorem crc16_digits : crc16 [0x31, 0x32, 0x33, 0x34, 0x35, 0x36, 0x37, 0x38, 0x39] = 0x29B1#16 := by decide

set_option maxRecDepth 4096 in
theorem crc32_digits : crc32 [0x31, 0x32, 0x33, 0x34, 0x35, 0x36, 0x37, 0x38, 0x39] = 0x0376E6E7#32 := by decide

end Sys2Proof.Machine

open Sys2Proof Sys2Proof.Machine Sys2Proof.Safety

/-- Settles O60: each layout is the list of its fields, and each field reads back from its place. -/
theorem wireFormatsReadBack : Obligations.WireFormatsReadBack := by
  unfold Obligations.WireFormatsReadBack
  refine ⟨fun r fits => ⟨transactionRequest_transaction fits, fun s => ?request⟩, fun c bytes wellFormed encoded => ?block,
    ⟨fun bytes whole wrong => ?wrong, fun bytes short => if_pos short, crc16_digits, crc32_digits⟩, fun n => ⟨fun small => ?two, fun small => ?three,
      fun small => ?four⟩, fun r => ?report, fun g => ?segment, rfl, rfl, rfl, fun id => rfl, rfl, rfl⟩
  case request =>
    rw [exec_command_of_line]
    exact congrArg Host.Outcome.next (transaction_of_request fits s)
  case block =>
    rw [encodeBlock_eq] at encoded
    obtain ⟨f, fields, rfl⟩ := Option.map_eq_some_iff.mp encoded
    obtain ⟨short, back⟩ := blockFields_readBack wellFormed fields
    exact ⟨length_blockOf short, (blockCommand_blockOf short).trans back⟩
  case wrong =>
    have long : ¬ bytes.length < 64 := by rw [whole]; decide
    have fails : blockChecks bytes = false := beq_eq_false_iff_ne.mpr wrong
    rw [blockCommand, if_neg long, fails]
    rfl
  case two =>
    refine ⟨_, _, rfl, ?_⟩
    simp only [BitVec.toNat_ofNat]
    omega
  case three =>
    refine ⟨_, _, _, rfl, ?_⟩
    simp only [BitVec.toNat_ofNat]
    omega
  case four =>
    refine ⟨_, _, _, _, rfl, ?_⟩
    simp only [BitVec.toNat_ofNat]
    omega
  case report =>
    intro at_
    have length : r.bytes.length = 54 := by
      rw [Report.bytes_eq, List.length_flatten, Report.lengths_eq]
      rfl
    refine ⟨length, ?_, r.field (k := 1) rfl, ?_, r.field (k := 3) rfl, r.field (k := 4) rfl, ?_, ?_, ?_, r.field (k := 8) rfl, ?_,
      fun st => ?_, ?_, ?_, ?_⟩
    · exact (r.field (k := 0) rfl).trans (by cases r.kind <;> rfl)
    · exact (r.field (k := 2) rfl).trans (by cases r.bank <;> rfl)
    · have verdict := r.field (k := 5) rfl
      cases known : r.verdict with
      | none => rw [known] at verdict; exact verdict
      | some v => rw [known] at verdict; exact verdict
    · have force := r.field (k := 6) rfl
      cases known : r.force with
      | none => rw [known] at force; exact force
      | some a => rw [known] at force; exact force
    · have decision := r.field (k := 7) rfl
      cases known : r.decision with
      | none => rw [known] at decision; exact decision
      | some d => rw [known] at decision; exact decision
    · exact (r.field (k := 9) rfl).trans (by cases r.kind <;> rfl)
    · refine (r.field_station st).trans ?_
      unfold StationEntry.bytes
      split
      next id carried => simp only [carried]
      next none_ => simp only [none_]
    · have position := r.field_tail (k := 0) rfl
      cases kind : r.kind <;> (rw [kind] at position; exact position)
    · have time := r.field_tail (k := 1) rfl
      cases kind : r.kind <;> (rw [kind] at time; exact time)
    · have speed := r.field_tail (k := 2) rfl
      cases kind : r.kind <;> (rw [kind] at speed; exact speed)
  case segment =>
    intro at_
    have field {k : Nat} {p : List Byte} (inHeader : k ≤ 7) (found : g.fields[k]? = some p) := g.field inHeader found
    refine ⟨?_, field (k := 0) (by decide) rfl, (field (k := 1) (by decide) rfl).trans ?_, field (k := 2) (by decide) rfl,
      field (k := 3) (by decide) rfl, (field (k := 4) (by decide) rfl).trans ?_, field (k := 5) (by decide) rfl,
      field (k := 6) (by decide) rfl, ?_⟩
    · rw [g.bytes_eq, List.length_flatten]
      show ([1, 1, 2, 4, 2, 1, 21] ++ [g.payload.length]).sum = _
      rw [List.sum_append]
      rfl
    · cases g.last <;> cases g.pendingFault <;> rfl
    · cases g.frame <;> rfl
    · rfl
end

section
/-! The camera parser and the ends of frames: O33, O36, O37 (chapter 6). -/

namespace Sys2Proof.Machine

open Sys2Proof.Safety

/-! ## What does not look at the Ingest Unit -/

/-- A change that neither reads nor writes the Ingest Unit. -/
def IngestBlind (f : State → State) : Prop :=
  ∀ s g, f { s with ingest := g } = { f s with ingest := g }

section

variable {f g : State → State} {s : State}

theorem IngestBlind.ingest (blind : IngestBlind f) (s : State) : (f s).ingest = s.ingest :=
  (congrArg State.ingest (blind s s.ingest)).trans rfl

theorem IngestBlind.comp (hf : IngestBlind f) (hg : IngestBlind g) : IngestBlind fun s => g (f s) := fun s x => by
  dsimp only
  rw [hf, hg]

/-- A blind change and a change of a port may be made in either order. -/
theorem IngestBlind.updPort (blind : IngestBlind f) (p : Station) (k : Port → Port) (s : State) :
    f (updPort p k s) = updPort p k (f s) := by
  have same : Machine.updPort p k (f s)
      = { f s with ingest := { s.ingest with ports := s.ingest.ports.set p.val (k s.ingest.ports[p]) p.isLt } } := by
    unfold Machine.updPort
    rw [blind.ingest s]
  rw [same]
  exact blind s _

theorem IngestBlind.setParser (blind : IngestBlind f) (p : Station) (q : Parser) (s : State) :
    f (setParser p q s) = setParser p q (f s) :=
  blind.updPort p _ s

theorem settleFrame_blind (id : FrameId) : IngestBlind (settleFrame id) := fun s g => by
  have same : frameOf id { s with ingest := g } = frameOf id s := rfl
  unfold settleFrame
  rw [same]
  split <;> rfl

theorem frameEnds_blind (id : FrameId) : IngestBlind (frameEnds id) := fun s g =>
  settleFrame_blind id (setFrame id { frameOf id s with state := .ready, cls := classAtReady (frameOf id s) s } s) g

theorem damageStation_blind (x : OpenFrame) (p : Station) : IngestBlind (damageStation x p) := fun s g => by
  have same : liveItem? (frameOf x.frame { s with ingest := g }).tag (frameOf x.frame { s with ingest := g }).bank { s with ingest := g }
      = liveItem? (frameOf x.frame s).tag (frameOf x.frame s).bank s := rfl
  unfold damageStation
  rw [same]
  split
  · dsimp only
    split
    · split <;> rfl
    · rfl
  · rfl

theorem failFrame_blind (x : OpenFrame) (p : Station) : IngestBlind (failFrame x p) := fun s g =>
  damageStation_blind x p (setFrame x.frame { frameOf x.frame s with damaged := true } s) g

/-! ## Changes of one port -/

theorem updPort_updPort (p : Station) (a b : Port → Port) (s : State) : updPort p b (updPort p a s) = updPort p (fun t => b (a t)) s := by
  simp [updPort]

theorem parser_updPort (p : Station) (a : Port → Port) (s : State) : (updPort p a s).ingest.ports[p] = a s.ingest.ports[p] := by
  simp [updPort]

theorem parser_setParser (p : Station) (q : Parser) (s : State) : (setParser p q s).ingest.ports[p].parser = q := by
  rw [setParser, parser_updPort]

theorem fifo_setParser (p : Station) (q : Parser) (s : State) : (setParser p q s).ingest.ports[p].fifo = s.ingest.ports[p].fifo := by
  rw [setParser, parser_updPort]

theorem settleFifo_of_ended {p : Station} {x : FifoFrame} {rest : List FifoFrame} (fifo : s.ingest.ports[p].fifo = x :: rest)
    (ended : (x.cut && x.marked) = true) :
    settleFifo p s = frameEnds x.frame (updPort p (fun t => { t with fifo := rest }) s) := by
  simp only [settleFifo, fifo, ended, if_true]

theorem settleFifo_of_settled {p : Station} (settled : ∀ x, s.ingest.ports[p].fifo.head? = some x → (x.cut && x.marked) = false) :
    settleFifo p s = s := by
  unfold settleFifo
  split
  next x rest fifo =>
    rw [fifo] at settled
    rw [settled x rfl]
    rfl
  next => rfl

theorem settleFifo_setParser (p : Station) (q : Parser) (s : State) :
    settleFifo p (setParser p q s) = setParser p q (settleFifo p s) := by
  have fifo := fifo_setParser p q s
  by_cases settled : ∀ x, s.ingest.ports[p].fifo.head? = some x → (x.cut && x.marked) = false
  · rw [settleFifo_of_settled settled, settleFifo_of_settled (by rwa [fifo])]
  · push Not at settled
    obtain ⟨x, head, ended⟩ := settled
    obtain ⟨rest, whole⟩ := List.head?_eq_some_iff.mp head
    have ends : (x.cut && x.marked) = true := by simpa using ended
    rw [settleFifo_of_ended whole ends, settleFifo_of_ended (fifo.trans whole) ends, ← (frameEnds_blind x.frame).setParser,
      setParser, setParser, updPort_updPort, updPort_updPort]

/-- A mark is placed whatever the parser does. -/
theorem placeMark_setParser (p : Station) (q : Parser) (s : State) : placeMark p (setParser p q s) = setParser p q (placeMark p s) := by
  have first : updPort p (fun t => { t with fifo := onYoungest (fun f => { f with marked := true }) t.fifo }) (setParser p q s)
      = setParser p q (updPort p (fun t => { t with fifo := onYoungest (fun f => { f with marked := true }) t.fifo }) s) := by
    rw [setParser, setParser, updPort_updPort, updPort_updPort]
  rw [placeMark, first, settleFifo_setParser]
  rfl

theorem trailerArrived_setParser (x : OpenFrame) (p : Station) (rows : Word16) (crc : Word32) (q : Parser) (s : State) :
    trailerArrived x p rows crc (setParser p q s) = trailerArrived x p rows crc s := by
  unfold trailerArrived
  split
  · rw [(failFrame_blind x p).setParser, placeMark_setParser, setParser_setParser]
  · rw [placeMark_setParser, setParser_setParser]

/-! ## The header's checks (R88) -/

theorem headerFieldsOk_iff {word : Word24} {w h : Word16} {depth : Byte} :
    headerFieldsOk word w.toNat h.toNat depth.toNat = true ↔ headerGood word w h depth := by
  have depthIs (k : Byte) : (depth.toNat == k.toNat) = true ↔ depth = k := by rw [beq_iff_eq, BitVec.toNat_inj]
  have eight := depthIs 8
  have twelve := depthIs 12
  simp only [headerFieldsOk, checkAgrees, triggerCheck, headerGood, Bool.and_eq_true, Bool.or_eq_true, decide_eq_true_eq, beq_iff_eq,
    and_assoc] at eight twelve ⊢
  rw [← eight, ← twelve]
  rfl

theorem refusesFrame_iff {o : StationOutcome} : o.refusesFrame = true ↔ o.code ∈ [(0 : Byte), 3, 4, 5] := by
  cases o <;> simp [StationOutcome.refusesFrame, StationOutcome.code]

theorem headerArrived_of_badFields {p : Station} {word : Word24} {w h d : Nat} (bad : headerFieldsOk word w h d = false) :
    headerArrived p word w h d s = setParser p .discard (headerFault s) := by
  rw [headerArrived, bad]
  rfl

theorem headerArrived_of_orphan {p : Station} {word : Word24} {w h d : Nat} (good : headerFieldsOk word w h d = true)
    (none_ : liveItem? (wordTag word) (wordBank word) s = none) :
    headerArrived p word w h d s = setParser p .discard (noted 13 2 s) := by
  rw [headerArrived, good, none_, discardFrame, bump_raise_eq]
  rfl

theorem headerArrived_of_duplicate {p : Station} {word : Word24} {w h d : Nat} {i : Item} (good : headerFieldsOk word w h d = true)
    (live : liveItem? (wordTag word) (wordBank word) s = some i) (refuses : i.stations[p].refusesFrame = true) :
    headerArrived p word w h d s = setParser p .discard (noted 12 3 s) := by
  rw [headerArrived, good, live]
  dsimp only
  rw [if_neg (by decide), if_pos refuses, discardFrame, bump_raise_eq]
  rfl

theorem headerArrived_of_matched {p : Station} {word : Word24} {w h d : Nat} {i : Item} (good : headerFieldsOk word w h d = true)
    (live : liveItem? (wordTag word) (wordBank word) s = some i) (takes : i.stations[p].refusesFrame = false) :
    headerArrived p word w h d s = storeMatched i p word w h d s := by
  rw [headerArrived, good, live]
  dsimp only
  rw [if_neg (by decide), takes]
  rfl

/-! ## Patterns (the table of R87) -/

section

variable {p : Station}

theorem syncPattern_of_hunt (idle : s.ingest.ports[p].parser = .hunt ∨ s.ingest.ports[p].parser = .discard) :
    syncPattern p s = setParser p (.header []) s := by
  rcases idle with hunt | discard
  · simp only [syncPattern, hunt]
  · simp only [syncPattern, discard]

theorem syncPattern_of_header {l : List Byte} (header : s.ingest.ports[p].parser = .header l) :
    syncPattern p s = setParser p (.header []) (noted 11 4 s) := by
  simp only [syncPattern, header, headerFault_eq]

theorem syncPattern_of_open {x : OpenFrame} (opened : s.ingest.ports[p].parser.open? = some x) :
    syncPattern p s = setParser p (.header []) (endWithoutTrailer x p s) := by
  unfold syncPattern
  cases parser : s.ingest.ports[p].parser with
  | pixels y => rw [parser] at opened; cases opened; rfl
  | trailer y l => rw [parser] at opened; cases opened; rfl
  | _ => rw [parser] at opened; cases opened

theorem parser_syncPattern (p : Station) (s : State) : (syncPattern p s).ingest.ports[p].parser = .header [] := by
  unfold syncPattern
  split <;> exact parser_setParser ..

theorem endPattern_of_hunt (idle : s.ingest.ports[p].parser = .hunt ∨ s.ingest.ports[p].parser = .discard) : endPattern p s = s := by
  rcases idle with hunt | discard
  · simp only [endPattern, hunt]
  · simp only [endPattern, discard]

theorem endPattern_of_header {l : List Byte} (header : s.ingest.ports[p].parser = .header l) :
    endPattern p s = setParser p .hunt (noted 11 4 s) := by
  simp only [endPattern, header, headerFault_eq]

theorem endPattern_of_pixels {x : OpenFrame} (pixels : s.ingest.ports[p].parser = .pixels x) :
    endPattern p s = setParser p (.trailer x []) s := by
  simp only [endPattern, pixels]

theorem endPattern_of_trailer {x : OpenFrame} {l : List Byte} (trailer : s.ingest.ports[p].parser = .trailer x l) :
    endPattern p s = setParser p .hunt (endWithoutTrailer x p s) := by
  simp only [endPattern, trailer]

theorem beginHeader_of_begun (begun : s.ingest.ports[p].parser = .header []) : beginHeader p s = s := by
  simp only [beginHeader, begun]

theorem beginHeader_of_not_begun (other : s.ingest.ports[p].parser ≠ .header []) : beginHeader p s = syncPattern p s := by
  unfold beginHeader
  split
  · exact absurd ‹_› other
  all_goals rfl

theorem beginHeader_beginHeader (other : s.ingest.ports[p].parser ≠ .header []) : beginHeader p s = beginHeader p (syncPattern p s) := by
  rw [beginHeader_of_not_begun other, beginHeader_of_begun (parser_syncPattern p s)]

theorem reachTrailer_of_not_trailer (other : ∀ x l, s.ingest.ports[p].parser ≠ .trailer x l) : reachTrailer p s = endPattern p s := by
  unfold reachTrailer
  split
  · exact absurd ‹_› (other _ _)
  all_goals rfl

theorem reachTrailer_of_trailer {x : OpenFrame} {l : List Byte} (trailer : s.ingest.ports[p].parser = .trailer x l) :
    reachTrailer p s = s := by
  simp only [reachTrailer, trailer]

theorem beginTrailer_of_begun {x : OpenFrame} (begun : s.ingest.ports[p].parser = .trailer x []) : beginTrailer p s = s := by
  simp only [beginTrailer, begun]

theorem beginTrailer_of_not_begun (other : ∀ x, s.ingest.ports[p].parser ≠ .trailer x []) : beginTrailer p s = endPattern p s := by
  unfold beginTrailer
  split
  · exact absurd ‹_› (other _)
  all_goals rfl

theorem takeTrailer_of_trailer {x : OpenFrame} {l : List Byte} {rows : Word16} {crc : Word32}
    (trailer : s.ingest.ports[p].parser = .trailer x l) : takeTrailer p rows crc s = trailerArrived x p rows crc s := by
  simp only [takeTrailer, trailer]

/-- A parser with no frame open ignores the six bytes of a trailer. -/
theorem takeTrailer_of_closed {rows : Word16} {crc : Word32}
    (closed : s.ingest.ports[p].parser = .hunt ∨ s.ingest.ports[p].parser = .discard) : takeTrailer p rows crc s = s := by
  rcases closed with hunt | discard
  · simp only [takeTrailer, hunt]
  · simp only [takeTrailer, discard]

theorem exec_frameTrailer_of_hunt {rows : Word16} {crc : Word32}
    (idle : s.ingest.ports[p].parser = .hunt ∨ s.ingest.ports[p].parser = .discard) : exec (.frameTrailer p rows crc) s = .next s := by
  have other (x : OpenFrame) : s.ingest.ports[p].parser ≠ .trailer x [] := by
    rcases idle with e | e <;> rw [e] <;> nofun
  show Host.Outcome.next (takeTrailer p rows crc (beginTrailer p s)) = _
  rw [beginTrailer_of_not_begun other, endPattern_of_hunt idle, takeTrailer_of_closed idle]

theorem exec_frameTrailer_of_header {l : List Byte} {rows : Word16} {crc : Word32} (header : s.ingest.ports[p].parser = .header l) :
    exec (.frameTrailer p rows crc) s = .next (setParser p .hunt (noted 11 4 s)) := by
  show Host.Outcome.next (takeTrailer p rows crc (beginTrailer p s)) = _
  rw [beginTrailer_of_not_begun fun x => by rw [header]; simp, endPattern_of_header header,
    takeTrailer_of_closed (.inl (parser_setParser ..))]

/-- The six bytes behind the end pattern of the open frame are its trailer. -/
theorem exec_frameTrailer_of_open {x : OpenFrame} {rows : Word16} {crc : Word32}
    (opened : s.ingest.ports[p].parser = .pixels x ∨ s.ingest.ports[p].parser = .trailer x []) :
    exec (.frameTrailer p rows crc) s = .next (trailerArrived x p rows crc s) := by
  show Host.Outcome.next (takeTrailer p rows crc (beginTrailer p s)) = _
  rcases opened with pixels | begun
  · rw [beginTrailer_of_not_begun fun x => by rw [pixels]; simp, endPattern_of_pixels pixels,
      takeTrailer_of_trailer (parser_setParser ..), trailerArrived_setParser]
  · rw [beginTrailer_of_begun begun, takeTrailer_of_trailer begun]

/-- A trailer that finds trailer bytes collected is that of its end pattern, and its bytes are ignored (log 23). -/
theorem exec_frameTrailer_of_collected {x : OpenFrame} {b : Byte} {l : List Byte} {rows : Word16} {crc : Word32}
    (trailer : s.ingest.ports[p].parser = .trailer x (b :: l)) :
    exec (.frameTrailer p rows crc) s = .next (setParser p .hunt (endWithoutTrailer x p s)) := by
  show Host.Outcome.next (takeTrailer p rows crc (beginTrailer p s)) = _
  rw [beginTrailer_of_not_begun fun x => by rw [trailer]; simp, endPattern_of_trailer trailer,
    takeTrailer_of_closed (.inl (parser_setParser ..))]

theorem exec_pixelByte_of_hunt {b : Byte} (idle : s.ingest.ports[p].parser = .hunt ∨ s.ingest.ports[p].parser = .discard) :
    exec (.pixelByte p b) s = .next s := by
  rcases idle with hunt | discard
  · simp only [exec, execPixelByte, hunt]
  · simp only [exec, execPixelByte, discard]

theorem exec_pixelByte_of_header {b : Byte} {l : List Byte} (header : s.ingest.ports[p].parser = .header l) :
    exec (.pixelByte p b) s = .next (headerByte p (l ++ [b]) s) := by
  simp only [exec, execPixelByte, header]

theorem exec_pixelByte_of_trailer {x : OpenFrame} {b : Byte} {l : List Byte} (trailer : s.ingest.ports[p].parser = .trailer x l) :
    exec (.pixelByte p b) s = .next (trailerByte x p (l ++ [b]) s) := by
  simp only [exec, execPixelByte, trailer]

theorem exec_pixelByte_of_pixels {x : OpenFrame} {b : Byte} (pixels : s.ingest.ports[p].parser = .pixels x) :
    exec (.pixelByte p b) s = .next (pixelReceived x p b s) := by
  simp only [exec, execPixelByte, pixels]

end

/-! ## A matched header, whatever the parser does -/

theorem evictHead?_blind (s : State) (g : IngestUnit) :
    evictHead? { s with ingest := g } = (evictHead? s).map fun t => { t with ingest := g } := by
  unfold evictHead?
  cases s.store.reclaim <;> rfl

theorem evictToWatermark_blind (fuel : Nat) : IngestBlind (evictToWatermark fuel) := fun s g => by
  induction fuel generalizing s with
  | zero => rfl
  | succ fuel ih =>
    simp only [evictToWatermark, evictHead?_blind]
    split
    · rfl
    · cases evictHead? s with
      | none => rfl
      | some t => exact ih t

theorem allocBlock_blind (id : FrameId) (s : State) (g : IngestUnit) :
    allocBlock id { s with ingest := g } = ({ (allocBlock id s).1 with ingest := g }, (allocBlock id s).2) := by
  have taken (b : Block) (rest : List Block) (t : State) :
      takeBlock id b rest { t with ingest := g } = { takeBlock id b rest t with ingest := g } :=
    evictToWatermark_blind t.store.reclaim.length
      (setFrame id { frameOf id t with blocks := (frameOf id t).blocks ++ [b] } { t with store.freeList := rest }) g
  unfold allocBlock
  rw [evictHead?_blind]
  dsimp only
  cases s.store.freeList with
  | cons b rest => exact congrArg (·, true) (taken b rest s)
  | nil =>
    cases evictHead? s with
    | none => rfl
    | some t =>
      dsimp only [Option.map_some]
      cases t.store.freeList with
      | cons b rest => exact congrArg (·, true) (taken b rest t)
      | nil => rfl

theorem takeRecord_blind (s : State) (g : IngestUnit) :
    takeRecord { s with ingest := g } = (takeRecord s).map fun x => (x.1, { x.2 with ingest := g }) := by
  have lowest (t : State) : lowestFree { t with ingest := g } = lowestFree t := rfl
  unfold takeRecord
  rw [evictHead?_blind, lowest]
  cases lowestFree s with
  | some id => rfl
  | none =>
    cases evictHead? s with
    | none => rfl
    | some t =>
      dsimp only [Option.map_some]
      rw [lowest]
      cases lowestFree t <;> rfl

theorem takeRecord_ingest {id : FrameId} {t : State} (record : takeRecord s = some (id, t)) : t.ingest = s.ingest := by
  have same := takeRecord_blind s s.ingest
  rw [show ({ s with ingest := s.ingest } : State) = s from rfl, record] at same
  exact congrArg (fun x : FrameId × State => x.2.ingest) (Option.some.inj same)

theorem stationAtHeader_blind (i : Item) (p : Station) (o : StationOutcome) : IngestBlind (stationAtHeader i p o) := fun s g => by
  unfold stationAtHeader
  dsimp only
  split <;> rfl

theorem dropFrame_setParser (i : Item) (p : Station) (q : Parser) (s : State) :
    dropFrame i p (setParser p q s) = dropFrame i p s := by
  have raised : raise .storePressure (setParser p q s) = setParser p q (raise .storePressure s) := rfl
  rw [dropFrame, raised, (stationAtHeader_blind i p .dropped).setParser, setParser_setParser]
  rfl

theorem openFrameOn_setParser (i : Item) (p : Station) (id : FrameId) (w h d : Nat) (q : Parser) (s : State) :
    openFrameOn i p id w h d (setParser p q s) = openFrameOn i p id w h d s := by
  rw [openFrameOn, (stationAtHeader_blind i p _).setParser, setParser, updPort_updPort]
  rfl

/-- A matched header is stored or dropped wherever the parser stands. -/
theorem storeMatched_setParser (i : Item) (p : Station) (word : Word24) (w h d : Nat) (q : Parser) (s : State) :
    storeMatched i p word w h d (setParser p q s) = storeMatched i p word w h d s := by
  have same : setParser p q s = { s with ingest := (setParser p q s).ingest } := rfl
  unfold storeMatched
  rw [same, takeRecord_blind]
  cases record : takeRecord s with
  | none =>
    dsimp only [Option.map_none]
    rw [← same, dropFrame_setParser]
  | some x =>
    obtain ⟨id, t⟩ := x
    have kept : ({ t with ingest := (setParser p q s).ingest } : State) = setParser p q t := by
      rw [setParser, updPort, ← takeRecord_ingest record]
      rfl
    have filled := allocBlock_blind id (setFrame id (fillingRecord word p w h d (i.phase == .void)) t) (setParser p q s).ingest
    dsimp only [Option.map_some]
    have start : setFrame id (fillingRecord word p w h d (i.phase == .void)) { t with ingest := (setParser p q s).ingest }
        = { setFrame id (fillingRecord word p w h d (i.phase == .void)) t with ingest := (setParser p q s).ingest } := rfl
    rw [start, filled]
    cases alloc : allocBlock id (setFrame id (fillingRecord word p w h d (i.phase == .void)) t) with
    | mk u done =>
      have ingest : u.ingest = s.ingest := by
        have := allocBlock_ingest (setFrame id (fillingRecord word p w h d (i.phase == .void)) t) id
        rw [alloc] at this
        exact this.trans (takeRecord_ingest (t := t) record)
      have moved : ({ u with ingest := (setParser p q s).ingest } : State) = setParser p q u := by
        rw [setParser, updPort, ← ingest]
        rfl
      cases done with
      | true =>
        dsimp only
        rw [moved, openFrameOn_setParser]
      | false =>
        dsimp only
        rw [moved]
        exact dropFrame_setParser i p q (setFrame id FrameRecord.freed u)

theorem headerArrived_setParser (p : Station) (word : Word24) (w h d : Nat) (q : Parser) (s : State) :
    headerArrived p word w h d (setParser p q s) = headerArrived p word w h d s := by
  have live : liveItem? (wordTag word) (wordBank word) (setParser p q s) = liveItem? (wordTag word) (wordBank word) s := rfl
  cases good : headerFieldsOk word w h d with
  | false =>
    rw [headerArrived_of_badFields good, headerArrived_of_badFields good, headerFault_eq, headerFault_eq]
    exact setParser_setParser p q .discard (noted 11 4 s)
  | true =>
    cases found : liveItem? (wordTag word) (wordBank word) s with
    | none =>
      rw [headerArrived_of_orphan good found, headerArrived_of_orphan good (live.trans found)]
      exact setParser_setParser p q .discard (noted 13 2 s)
    | some i =>
      cases takes : i.stations[p].refusesFrame with
      | true =>
        rw [headerArrived_of_duplicate good found takes, headerArrived_of_duplicate good (live.trans found) takes]
        exact setParser_setParser p q .discard (noted 12 3 s)
      | false =>
        rw [headerArrived_of_matched good found takes, headerArrived_of_matched good (live.trans found) takes,
          storeMatched_setParser]

/-- A complete header between frames is judged as it arrives. -/
theorem exec_frameHeader_between {p : Station} {word : Word24} {w h : Word16} {depth : Byte} (between : betweenFrames p s) :
    exec (.frameHeader p (.complete word w h depth)) s = .next (headerArrived p word w.toNat h.toNat depth.toNat s) := by
  rw [exec_frameHeader_complete, beginHeader_of_betweenFrames between, headerArrived_setParser]

end

end Sys2Proof.Machine

open Sys2Proof Sys2Proof.Machine Sys2Proof.Safety

/-- Settles O33: the header's checks in their order, and the table of R87 by the parser's state. -/
theorem headerChecksInOrder : Obligations.HeaderChecksInOrder := by
  unfold Obligations.HeaderChecksInOrder
  refine ⟨fun p word w h depth s between => ?header, fun p b s => ?table⟩
  case header =>
    intro fifo header
    have good (ok : headerGood word w h depth) : headerFieldsOk word w.toNat h.toNat depth.toNat = true := headerFieldsOk_iff.mpr ok
    have begun := beginHeader_of_betweenFrames between
    refine ⟨fun bad => ?_, ?_, ?_, fun ok orphan => ?_, fun i ok live takes => ?_⟩
    · exact exec_frameHeader_of_badFields between (Bool.eq_false_iff.mpr (mt headerFieldsOk_iff.mp bad))
    · show Host.Outcome.next (syncPattern p (beginHeader p s)) = _
      rw [begun, syncPattern_of_header (parser_setParser ..)]
      exact congrArg Host.Outcome.next (setParser_setParser p _ _ (noted 11 4 s))
    · show Host.Outcome.next (endPattern p (beginHeader p s)) = _
      rw [begun, endPattern_of_header (parser_setParser ..)]
      exact congrArg Host.Outcome.next (setParser_setParser p _ _ (noted 11 4 s))
    · have none_ : liveItem? (wordTag word) (wordBank word) s = none := by
        refine List.find?_eq_none.mpr fun i member => ?_
        simpa using orphan i member
      exact (exec_frameHeader_between between).trans (congrArg Host.Outcome.next (headerArrived_of_orphan (good ok) none_))
    · exact (exec_frameHeader_between between).trans
        (congrArg Host.Outcome.next (headerArrived_of_duplicate (good ok) live (refusesFrame_iff.mpr takes)))
  case table =>
    intro q moves sync end_
    refine ⟨fun idle => ⟨?_, ?_, exec_pixelByte_of_hunt idle, fun rows crc => exec_frameTrailer_of_hunt idle⟩,
      fun l header => ⟨?_, ?_, fun rows crc => exec_frameTrailer_of_header header, fun short => ?_, fun last => ?_⟩,
      fun f pixels => ?_, fun f l trailer => ⟨fun short => ?_, fun last => ?_⟩, rfl, fun h u notPattern other done => ?_,
      fun u other done => ⟨?_, ?_⟩⟩
    · exact congrArg Host.Outcome.next (syncPattern_of_hunt idle)
    · exact congrArg Host.Outcome.next (endPattern_of_hunt idle)
    · exact congrArg Host.Outcome.next (syncPattern_of_header header)
    · exact congrArg Host.Outcome.next (endPattern_of_header header)
    · have more : (l ++ [b]).length < Config.headerLength := by
        rw [List.length_append, Config.headerLength, List.length_singleton]
        omega
      rw [exec_pixelByte_of_header header, headerByte, if_pos more]
      rfl
    · have whole : ¬ (l ++ [b]).length < Config.headerLength := by
        rw [List.length_append, Config.headerLength, List.length_singleton]
        omega
      rw [exec_pixelByte_of_header header, headerByte, if_neg whole]
      exact ((exec_frameHeader_between (.inr (.inr (parser_setParser p (.header []) s)))).trans
        (congrArg Host.Outcome.next (headerArrived_setParser p _ _ _ _ _ s))).symm
    · exact congrArg Host.Outcome.next (endPattern_of_pixels pixels)
    · have more : (l ++ [b]).length < Config.trailerLength := by
        rw [List.length_append, Config.trailerLength, List.length_singleton]
        omega
      rw [exec_pixelByte_of_trailer trailer, trailerByte, if_pos more]
      rfl
    · have whole : ¬ (l ++ [b]).length < Config.trailerLength := by
        rw [List.length_append, Config.trailerLength, List.length_singleton]
        omega
      rw [exec_pixelByte_of_trailer trailer, trailerByte, if_neg whole]
      exact ((exec_frameTrailer_of_open (.inr (parser_setParser p (.trailer f []) s))).trans
        (congrArg Host.Outcome.next (trailerArrived_setParser f p _ _ _ s))).symm
    · cases done
      have same := beginHeader_beginHeader other
      cases h with
      | pattern => exact absurd rfl notPattern
      | complete word w h depth => exact congrArg (fun u => Host.Outcome.next (headerArrived p word _ _ _ u)) same
      | cutBySync => exact congrArg (fun u => Host.Outcome.next (syncPattern p u)) same
      | cutByEnd => exact congrArg (fun u => Host.Outcome.next (endPattern p u)) same
    · cases done
      exact congrArg (fun u => Host.Outcome.next (syncPattern p u)) (reachTrailer_of_not_trailer other)
    · cases done
      exact congrArg (fun u => Host.Outcome.next (endPattern p u)) (reachTrailer_of_not_trailer other)
end

section
/-! Pixel bytes and the ends of frames: O36, O37 (chapter 6). -/

namespace Sys2Proof.Machine

open Sys2Proof.Safety

theorem onYoungest_append_singleton (f : FifoFrame → FifoFrame) (front : List FifoFrame) (x : FifoFrame) :
    onYoungest f (front ++ [x]) = front ++ [f x] := by
  induction front with
  | nil => rfl
  | cons y front ih =>
    cases front with
    | nil => rfl
    | cons z front => exact congrArg (y :: ·) ih

/-! ## A mark placed (R93, R98) -/

/-- The mark of the youngest frame of a port has been placed, and the parser has moved on (R93): it stands behind the frame's bytes,
or ends a frame that was cut off and has reached the head of the FIFO. -/
def markPlaced (p : Station) (q : Parser) (front : List FifoFrame) (last : FifoFrame) (s : State) : State :=
  if last.cut = true ∧ front = [] then frameEnded last.frame (frameOf last.frame s) (withPort p q [] s)
  else withPort p q (front ++ [{ last with marked := true }]) s

section

variable {s : State} {p : Station}

theorem classAtReady_eq (r : FrameRecord) (s : State) : classAtReady r s = classR99 r s := by
  unfold classAtReady classR99
  split_ifs with done live
  · rfl
  · obtain ⟨i, found, undecided, alive⟩ := live
    rw [Option.mem_toList] at found
    simp [found, undecided, alive]
  · split
    next i found =>
      have : ¬ (i.decision = none ∧ i.phase ≠ .void) := fun h => live ⟨i, Option.mem_toList.mpr found, h⟩
      rw [if_neg]
      simpa using this
    next => rfl

theorem frameEnds_eq (id : FrameId) (s : State) : frameEnds id s = frameEnded id (frameOf id s) s := by
  rw [frameEnds, updFrame_eq, classAtReady_eq]
  rfl

/-- The youngest frame of a port carries its mark (R93). -/
def youngestMarked (p : Station) (s : State) : State :=
  updPort p (fun t => { t with fifo := onYoungest (fun f => { f with marked := true }) t.fifo }) s

theorem placeMark_eq {front : List FifoFrame} {last : FifoFrame} (fifo : s.ingest.ports[p].fifo = front ++ [last])
    (settled : FifoSettled s.ingest.ports[p].fifo) (q : Parser) : setParser p q (placeMark p s) = markPlaced p q front last s := by
  obtain ⟨head, -⟩ := settled
  rw [fifo] at head
  have after : (youngestMarked p s).ingest.ports[p].fifo = front ++ [{ last with marked := true }] := by
    rw [youngestMarked, parser_updPort]
    dsimp only
    rw [fifo, onYoungest_append_singleton]
  have port : setParser p q (youngestMarked p s) = withPort p q (front ++ [{ last with marked := true }]) s := by
    rw [setParser_eq_withPort, after]
    exact updPort_updPort p _ (fun _ => { parser := q, fifo := front ++ [{ last with marked := true }] }) s
  have placed : placeMark p s = settleFifo p (youngestMarked p s) := rfl
  unfold markPlaced
  split_ifs with ended
  · obtain ⟨cut, rfl⟩ := ended
    have ends : placeMark p s = frameEnds last.frame (updPort p (fun t => { t with fifo := [] }) (youngestMarked p s)) :=
      placed.trans (settleFifo_of_ended (x := { last with marked := true }) (rest := []) after (by simp [cut]))
    rw [ends, ← (frameEnds_blind last.frame).setParser, frameEnds_eq, setParser, updPort_updPort, youngestMarked, updPort_updPort]
    rfl
  · have stays : placeMark p s = youngestMarked p s := by
      refine placed.trans (settleFifo_of_settled fun x first => ?_)
      rw [after] at first
      cases front with
      | nil =>
        cases first
        simpa using ended
      | cons y front =>
        have same : y = x := Option.some.inj first
        subst same
        have unmarked := head y rfl
        cases cut : y.cut with
        | false => rfl
        | true => simpa [cut] using unmarked cut
    rw [stays, port]

/-! ## A frame that fails (R95) -/

theorem faultUncounted_of_counted {o : StationOutcome} (code : o.code ∈ [(1 : Byte), 2, 7, 9]) : o.faultUncounted = true := by
  cases o <;> simp [StationOutcome.faultUncounted, StationOutcome.code] at code ⊢

theorem faultUncounted_of_uncounted {o : StationOutcome} (code : o.code ∈ [(6 : Byte), 8]) : o.faultUncounted = false := by
  cases o <;> simp [StationOutcome.faultUncounted, StationOutcome.code] at code ⊢

/-- A frame's record has become one, and its station is marked: the three cases of R95. -/
theorem Fails.of_damageStation {c : Instr} {f : OpenFrame} {r : FrameRecord} {finish : State → State}
    (runs : exec c s = .next (finish (damageStation f p (setFrame f.frame r s)))) : Fails c f p r finish s := by
  have record : frameOf f.frame (setFrame f.frame r s) = r := frameOf_setFrame_same ..
  have found (tag : Tag) (bank : BankName) : liveItem? tag bank (setFrame f.frame r s) = liveItem? tag bank s := rfl
  have hit {i : Item} (live : liveItem? r.tag r.bank s = some i ∧ i.stations[p].frameId? = some f.frame) :
      damageStation f p (setFrame f.frame r s) = if f.atHeader.faultUncounted
        then bump .stationFaults (raise .stationFault (setStation i.tag p (.damaged f.frame) (setFrame f.frame r s)))
        else raise .stationFault (setStation i.tag p (.damaged f.frame) (setFrame f.frame r s)) := by
    unfold damageStation
    rw [record, found, live.1]
    dsimp only
    rw [if_pos live.2]
  refine ⟨fun none_ => ?_, fun i live counted => ?_, fun i live uncounted => ?_⟩
  · have stays : damageStation f p (setFrame f.frame r s) = setFrame f.frame r s := by
      unfold damageStation
      rw [record, found]
      split
      next i live => rw [if_neg fun same => none_ i ⟨live, same⟩]
      next => rfl
    rw [runs, stays]
    rfl
  · rw [runs, hit live, if_pos (faultUncounted_of_counted counted), bump_raise_eq]
    rfl
  · rw [runs, hit live, faultUncounted_of_uncounted uncounted]
    rfl

/-- What marks the station of a failed frame leaves the FIFOs and the record as they are. -/
theorem damageStation_ingest (f : OpenFrame) (p : Station) (s : State) : (damageStation f p s).ingest = s.ingest :=
  (damageStation_blind f p).ingest s

/-- A frame that ends without a good trailer (R94, R95). -/
theorem endWithoutTrailer_eq {f : OpenFrame} {front : List FifoFrame} {last : FifoFrame}
    (fifo : s.ingest.ports[p].fifo = front ++ [last]) (settled : FifoSettled s.ingest.ports[p].fifo) (q : Parser) :
    setParser p q (endWithoutTrailer f p s)
      = markPlaced p q front last (damageStation f p (setFrame f.frame { frameOf f.frame s with damaged := true } s)) := by
  have ports : (failFrame f p s).ingest = s.ingest := (failFrame_blind f p).ingest s
  exact placeMark_eq (by rw [ports]; exact fifo) (by rw [ports]; exact settled) q

theorem endWithoutTrailer_setParser (f : OpenFrame) (p : Station) (q : Parser) (s : State) :
    endWithoutTrailer f p (setParser p q s) = setParser p q (endWithoutTrailer f p s) := by
  rw [endWithoutTrailer, (failFrame_blind f p).setParser, placeMark_setParser]
  rfl

/-! ## Pixel bytes (R92, R93) -/

theorem openCut_eq {front : List FifoFrame} {last : FifoFrame} (fifo : s.ingest.ports[p].fifo = front ++ [last]) :
    openCut p s = last.cut := by
  rw [openCut, fifo, List.getLast?_append, List.getLast?_singleton]
  rfl

theorem pixelReceived_of_unstored {f : OpenFrame} {b : Byte} {front : List FifoFrame} {last : FifoFrame}
    (fifo : s.ingest.ports[p].fifo = front ++ [last]) (unstored : f.expected < f.received + 1 ∨ last.cut = true) :
    pixelReceived f p b s = setParser p (.pixels (f.receive b)) s := by
  rw [pixelReceived, openCut_eq fifo, if_pos (by simpa using unstored)]

theorem pixelReceived_of_stored {f : OpenFrame} {b : Byte} {front : List FifoFrame} {last : FifoFrame}
    (fifo : s.ingest.ports[p].fifo = front ++ [last]) (expected : f.received + 1 ≤ f.expected) (stores : last.cut = false) :
    pixelReceived f p b s = if 262144 ≤ (s.ingest.ports[p].fifo.flatMap FifoFrame.bytes).length then overflow f p s
      else withPort p (.pixels (f.receive b)) (front ++ [{ last with bytes := last.bytes ++ [b] }]) s := by
  have takes : ¬ (decide (f.expected < f.received + 1) || openCut p s) = true := by
    rw [openCut_eq fifo, stores]
    simpa using expected
  have stored : updPort p (fun t => { parser := .pixels (f.receive b)
                                      fifo := onYoungest (fun g => { g with bytes := g.bytes ++ [b] }) t.fifo }) s
      = withPort p (.pixels (f.receive b)) (front ++ [{ last with bytes := last.bytes ++ [b] }]) s := by
    rw [updPort, fifo, onYoungest_append_singleton]
    rfl
  rw [pixelReceived, if_neg takes, fifoBytes_eq, Config.fifoCapacity, stored]

theorem overflow_eq {f : OpenFrame} {front : List FifoFrame} {last : FifoFrame} (fifo : s.ingest.ports[p].fifo = front ++ [last])
    (settled : FifoSettled s.ingest.ports[p].fifo) : overflow f p s = markPlaced p .discard front last
      (damageStation f p (setFrame f.frame { frameOf f.frame s with truncated := true, damaged := true } s)) := by
  have twice : setFrame f.frame { frameOf f.frame (setFrame f.frame { frameOf f.frame s with truncated := true } s) with damaged := true }
      (setFrame f.frame { frameOf f.frame s with truncated := true } s)
      = setFrame f.frame { frameOf f.frame s with truncated := true, damaged := true } s := by
    rw [frameOf_setFrame_same]
    simp [setFrame]
  have fails : failFrame f p (setFrame f.frame { frameOf f.frame s with truncated := true } s)
      = damageStation f p (setFrame f.frame { frameOf f.frame s with truncated := true, damaged := true } s) := by
    rw [failFrame, twice]
  have ports : (damageStation f p (setFrame f.frame { frameOf f.frame s with truncated := true, damaged := true } s)).ingest
      = s.ingest := damageStation_ingest f p _
  rw [overflow, fails]
  exact placeMark_eq (by rw [ports]; exact fifo) (by rw [ports]; exact settled) .discard

end

end Sys2Proof.Machine

open Sys2Proof Sys2Proof.Machine Sys2Proof.Safety

/-- Settles O36: a byte that is not stored, one that is, and one that overflows the FIFO. -/
theorem pixelByteCases : Obligations.PixelByteCases := by
  unfold Obligations.PixelByteCases
  refine ⟨fun p b s => ⟨fun f front last pixels fifo => ?received, exec_pixelByte_of_hunt⟩,
    fun p b f front last s settled pixels fifo stores expected full => ?overflow⟩
  case received =>
    intro received
    refine ⟨fun unstored => ?_, fun expected stores room => ?_⟩
    · rw [exec_pixelByte_of_pixels pixels, pixelReceived_of_unstored fifo unstored]
      rfl
    · rw [exec_pixelByte_of_pixels pixels, pixelReceived_of_stored fifo expected stores, if_neg (Nat.not_le.mpr room)]
      rfl
  case overflow =>
    have mark : markPlaced p .discard front last = withPort p .discard (front ++ [{ last with marked := true }]) := by
      funext u
      rw [markPlaced, if_neg (by simp [stores])]
    rw [← mark]
    refine Fails.of_damageStation ?_
    rw [exec_pixelByte_of_pixels pixels, pixelReceived_of_stored fifo expected stores, if_pos full, overflow_eq fifo settled]

/-- Settles O37: every end of a frame places its mark, with the frame failed or not. -/
theorem frameEndsAtItsTrailer : Obligations.FrameEndsAtItsTrailer := by
  unfold Obligations.FrameEndsAtItsTrailer
  intro p rows crc f front last s settled fifo own q closed good failed
  have closes (x : Parser) : closed x = markPlaced p x front last := by
    funext u
    simp only [closed, markPlaced, own]
  have ends {c : Instr} {x : Parser} (runs : exec c s = .next (setParser p x (endWithoutTrailer f p s))) : failed c x := by
    show Fails c f p _ (closed x) s
    rw [closes]
    refine Fails.of_damageStation ?_
    rw [runs, endWithoutTrailer_eq fifo settled]
  have checks : trailerFails f rows crc = false ↔ good := by
    simp [trailerFails, good, and_assoc]
  refine ⟨fun opened => ⟨fun ok => ?good, fun bad => ?bad⟩, fun b l collected => ?collected, fun opened => ⟨?sync, ?trailerSync, ?trailerEnd⟩,
    fun l trailer => ?endPattern⟩
  case good =>
    rw [exec_frameTrailer_of_open opened, trailerArrived, checks.mpr ok, if_neg Bool.false_ne_true, placeMark_eq fifo settled, closes]
  case bad =>
    have fails : trailerFails f rows crc = true := by
      rw [← Bool.not_eq_false]
      exact mt checks.mp bad
    refine ends ?_
    rw [exec_frameTrailer_of_open opened, trailerArrived, fails, if_pos rfl]
    rfl
  case collected => exact ends (exec_frameTrailer_of_collected collected)
  case sync =>
    have isOpen : s.ingest.ports[p].parser.open? = some f := by
      obtain (pixels : s.ingest.ports[p].parser = .pixels f) | ⟨l, trailer⟩ := opened
      · exact congrArg Parser.open? pixels
      · exact congrArg Parser.open? trailer
    exact ends (congrArg Host.Outcome.next (syncPattern_of_open isOpen))
  case trailerSync =>
    refine ends ?_
    show Host.Outcome.next (syncPattern p (reachTrailer p s)) = _
    obtain (pixels : s.ingest.ports[p].parser = .pixels f) | ⟨l, trailer⟩ := opened
    · rw [reachTrailer_of_not_trailer (fun x l same => by rw [pixels] at same; cases same), endPattern_of_pixels pixels,
        syncPattern_of_open (x := f) (by rw [parser_setParser]; rfl), endWithoutTrailer_setParser, setParser_setParser]
    · rw [reachTrailer_of_trailer trailer, syncPattern_of_open (congrArg Parser.open? trailer)]
  case trailerEnd =>
    refine ends ?_
    show Host.Outcome.next (endPattern p (reachTrailer p s)) = _
    obtain (pixels : s.ingest.ports[p].parser = .pixels f) | ⟨l, trailer⟩ := opened
    · rw [reachTrailer_of_not_trailer (fun x l same => by rw [pixels] at same; cases same), endPattern_of_pixels pixels,
        endPattern_of_trailer (parser_setParser ..), endWithoutTrailer_setParser, setParser_setParser]
    · rw [reachTrailer_of_trailer trailer, endPattern_of_trailer trailer]
  case endPattern => exact ends (congrArg Host.Outcome.next (endPattern_of_trailer trailer))
end

section
/-! Records and blocks for a matched header: O34, O35 (chapters 6 and 7). -/

namespace Sys2Proof.Machine

open Sys2Proof.Safety

/-! ## Evictions (R117, R118) -/

section

variable {s t u : State}

theorem hasAtLeast_iff {α : Type} {l : List α} {n : Nat} : hasAtLeast l n = true ↔ n ≤ l.length := by
  fun_induction hasAtLeast l n <;> simp_all

theorem evictHead?_cons {id : FrameId} {rest : List FrameId} (reclaim : s.store.reclaim = id :: rest) :
    evictHead? s = some (evicted id s) := by
  simp only [evictHead?, reclaim, bump_eq]
  rfl

theorem evictHead?_nil (reclaim : s.store.reclaim = []) : evictHead? s = none := by
  simp only [evictHead?, reclaim]

/-- The first `k` frames of the reclaim list have been evicted, one after the other, and counted (R117). -/
structure EvictedFirst (k : Nat) (s t : State) : Prop where
  within : k ≤ s.store.reclaim.length
  reclaim : t.store.reclaim = s.store.reclaim.drop k
  freeList : t.store.freeList = s.store.freeList ++ (s.store.reclaim.take k).flatMap fun x => (frameOf x s).blocks
  gone : ∀ x ∈ s.store.reclaim.take k, frameOf x t = FrameRecord.freed
  kept : ∀ x, x ∉ s.store.reclaim.take k → frameOf x t = frameOf x s
  counts : t.port.counts[(6 : Fin 14)].toNat = min 65535 (s.port.counts[(6 : Fin 14)].toNat + k)
  flags : t.port.flags = s.port.flags
  watermark : t.port.settings.watermark = s.port.settings.watermark

theorem EvictedFirst.zero (s : State) : EvictedFirst 0 s s where
  within := Nat.zero_le _
  reclaim := rfl
  freeList := (List.append_nil _).symm
  gone := nofun
  kept _ _ := rfl
  counts := by
    have := s.port.counts[(6 : Fin 14)].isLt
    omega
  flags := rfl
  watermark := rfl

theorem frameOf_evicted_same (id : FrameId) : frameOf id (evicted id s) = FrameRecord.freed := by
  simp [frameOf, evicted]

theorem frameOf_evicted_other {id x : FrameId} (other : x ≠ id) : frameOf x (evicted id s) = frameOf x s := by
  have apart : id.val ≠ x.val := fun h => other (Fin.ext h.symm)
  simp [frameOf, evicted, Vector.getElem_set_ne _ _ apart]

theorem reclaim_evicted {id : FrameId} {rest : List FrameId} (once : s.store.reclaim.Nodup)
    (reclaim : s.store.reclaim = id :: rest) : (evicted id s).store.reclaim = rest := by
  rw [reclaim, List.nodup_cons] at once
  have others : rest.filter (fun k => k != id) = rest :=
    List.filter_eq_self.mpr fun x member => bne_iff_ne.mpr fun same => once.1 (same ▸ member)
  show s.store.reclaim.filter _ = rest
  rw [reclaim, List.filter_cons, if_neg (by simp), others]

theorem EvictedFirst.succ {k : Nat} {id : FrameId} {rest : List FrameId} (once : s.store.reclaim.Nodup)
    (reclaim : s.store.reclaim = id :: rest) (h : EvictedFirst k (evicted id s) t) : EvictedFirst (k + 1) s t := by
  have after := reclaim_evicted once reclaim
  have taken : s.store.reclaim.take (k + 1) = id :: rest.take k := by rw [reclaim, List.take_succ_cons]
  have new : id ∉ rest := (List.nodup_cons.mp (reclaim ▸ once)).1
  have same (x : FrameId) (member : x ∈ rest.take k) : frameOf x (evicted id s) = frameOf x s :=
    frameOf_evicted_other fun e => new (e ▸ List.mem_of_mem_take member)
  obtain ⟨within, rest_, freeList, gone, kept, counts, flags, watermark⟩ := h
  rw [after] at within rest_ freeList gone kept
  refine ⟨by rw [reclaim]; exact Nat.succ_le_succ within, by rw [rest_, reclaim, List.drop_succ_cons], ?_, fun x member => ?_,
    fun x other => ?_, ?_, flags, watermark⟩
  · have blocks : (rest.take k).flatMap (fun x => (frameOf x (evicted id s)).blocks)
        = (rest.take k).flatMap fun x => (frameOf x s).blocks :=
      List.flatMap_congr fun x member => by rw [same x member]
    rw [freeList, blocks, taken, List.flatMap_cons]
    exact List.append_assoc ..
  · rw [taken, List.mem_cons] at member
    by_cases inRest : x ∈ rest.take k
    · exact gone x inRest
    · obtain rfl := member.resolve_right inRest
      rw [kept x inRest, frameOf_evicted_same]
  · rw [taken, List.mem_cons, not_or] at other
    rw [kept x other.2, frameOf_evicted_other other.1]
  · rw [counts]
    have one : (evicted id s).port.counts[(6 : Fin 14)] = oneMore s.port.counts[(6 : Fin 14)] := by simp [evicted]
    rw [one, oneMore_toNat]
    omega

/-- The watermark rule evicts from the head of the reclaim list, and stops with the watermark met or the list empty (R118). -/
theorem evictToWatermark_evicts (fuel : Nat) (once : s.store.reclaim.Nodup) (enough : s.store.reclaim.length ≤ fuel) :
    ∃ k, EvictedFirst k s (evictToWatermark fuel s)
      ∧ (s.port.settings.watermark ≤ (evictToWatermark fuel s).store.freeList.length ∨ (evictToWatermark fuel s).store.reclaim = []) := by
  induction fuel generalizing s with
  | zero => exact ⟨0, .zero s, .inr (List.length_eq_zero_iff.mp (Nat.le_zero.mp enough))⟩
  | succ fuel ih =>
    rw [evictToWatermark]
    split_ifs with met
    · exact ⟨0, .zero s, .inl (hasAtLeast_iff.mp met)⟩
    · cases reclaim : s.store.reclaim with
      | nil =>
        rw [evictHead?_nil reclaim]
        exact ⟨0, .zero s, .inr reclaim⟩
      | cons id rest =>
        rw [evictHead?_cons reclaim]
        have after := reclaim_evicted once reclaim
        obtain ⟨k, evicts, stops⟩ := ih (s := evicted id s) (by rw [after]; exact (List.nodup_cons.mp (reclaim ▸ once)).2)
          (by rw [after]; rw [reclaim] at enough; exact Nat.le_of_succ_le_succ enough)
        exact ⟨k + 1, evicts.succ once reclaim, stops⟩

/-- The frame that an allocation is for has taken the block at the head of the free list (R105). -/
def withBlock (id : FrameId) (b : Block) (rest : List Block) (s : State) : State :=
  setFrame id { frameOf id s with blocks := (frameOf id s).blocks ++ [b] } { s with store.freeList := rest }

theorem takeBlock_eq (id : FrameId) (b : Block) (rest : List Block) (s : State) :
    takeBlock id b rest s = evictToWatermark s.store.reclaim.length (withBlock id b rest s) :=
  rfl

theorem takeBlock_of_watermark {id : FrameId} {b : Block} {rest : List Block} (met : s.port.settings.watermark ≤ rest.length) :
    takeBlock id b rest s = withBlock id b rest s := by
  have stops : hasAtLeast (withBlock id b rest s).store.freeList (withBlock id b rest s).port.settings.watermark = true :=
    hasAtLeast_iff.mpr met
  rw [takeBlock_eq]
  cases s.store.reclaim.length with
  | zero => rfl
  | succ n => rw [evictToWatermark, if_pos stops]

/-- What an allocation of a block leaves (R105, R117, R118): `k` evictions, the block `b` taken. -/
structure Allocated (id : FrameId) (k : Nat) (b : Block) (s t : State) : Prop where
  within : k ≤ s.store.reclaim.length
  reclaim : t.store.reclaim = s.store.reclaim.drop k
  freeList : b :: t.store.freeList = s.store.freeList ++ (s.store.reclaim.take k).flatMap fun x => (frameOf x s).blocks
  own : (frameOf id t).blocks = (frameOf id s).blocks ++ [b]
  gone : ∀ x ∈ s.store.reclaim.take k, frameOf x t = FrameRecord.freed
  kept : ∀ x, x ≠ id → x ∉ s.store.reclaim.take k → frameOf x t = frameOf x s
  stops : s.port.settings.watermark ≤ t.store.freeList.length ∨ t.store.reclaim = []
  counts : t.port.counts[(6 : Fin 14)].toNat = min 65535 (s.port.counts[(6 : Fin 14)].toNat + k)
  flags : t.port.flags = s.port.flags

theorem Allocated.takeBlock {id : FrameId} {b : Block} {rest : List Block} (once : s.store.reclaim.Nodup)
    (unlisted : id ∉ s.store.reclaim) (free : s.store.freeList = b :: rest) : ∃ k, Allocated id k b s (takeBlock id b rest s) := by
  rw [takeBlock_eq]
  obtain ⟨k, evicts, stops⟩ := evictToWatermark_evicts (s := withBlock id b rest s) s.store.reclaim.length once le_rfl
  obtain ⟨within, reclaim, freeList, gone, kept, counts, flags, watermark⟩ := evicts
  have others (x : FrameId) (other : x ≠ id) : frameOf x (withBlock id b rest s) = frameOf x s :=
    frameOf_setFrame_other _ _ other
  have listed : (withBlock id b rest s).store.reclaim = s.store.reclaim := rfl
  rw [listed] at within reclaim freeList gone kept
  have apart {x : FrameId} (member : x ∈ s.store.reclaim.take k) : x ≠ id := fun same =>
    unlisted (same ▸ List.mem_of_mem_take member)
  refine ⟨k, within, reclaim, ?_, ?_, gone, fun x other new => (kept x new).trans (others x other), stops, counts, flags⟩
  · have blocks : (s.store.reclaim.take k).flatMap (fun x => (frameOf x (withBlock id b rest s)).blocks)
        = (s.store.reclaim.take k).flatMap fun x => (frameOf x s).blocks :=
      List.flatMap_congr fun x member => by rw [others x (apart member)]
    rw [freeList, blocks, free]
    rfl
  · rw [kept id fun member => apart member rfl]
    simp [withBlock]

/-- An allocation evicts one frame first where no block is free (R105). -/
theorem Allocated.after_eviction {id x : FrameId} {rest : List FrameId} {k : Nat} {b : Block} (once : s.store.reclaim.Nodup)
    (unlisted : id ∉ s.store.reclaim) (reclaim : s.store.reclaim = x :: rest) (h : Allocated id k b (evicted x s) t) :
    Allocated id (k + 1) b s t := by
  have after := reclaim_evicted once reclaim
  have taken : s.store.reclaim.take (k + 1) = x :: rest.take k := by rw [reclaim, List.take_succ_cons]
  have new : x ∉ rest := (List.nodup_cons.mp (reclaim ▸ once)).1
  have own : id ≠ x := fun same => unlisted (by rw [reclaim, same]; exact List.mem_cons_self)
  have same (y : FrameId) (member : y ∈ rest.take k) : frameOf y (evicted x s) = frameOf y s :=
    frameOf_evicted_other fun e => new (e ▸ List.mem_of_mem_take member)
  obtain ⟨within, rest_, freeList, blocks, gone, kept, stops, counts, flags⟩ := h
  rw [after] at within rest_ freeList gone kept
  refine ⟨by rw [reclaim]; exact Nat.succ_le_succ within, by rw [rest_, reclaim, List.drop_succ_cons], ?_, ?_, fun y member => ?_,
    fun y other new => ?_, stops, ?_, flags⟩
  · have later : (rest.take k).flatMap (fun y => (frameOf y (evicted x s)).blocks)
        = (rest.take k).flatMap fun y => (frameOf y s).blocks :=
      List.flatMap_congr fun y member => by rw [same y member]
    rw [freeList, later, taken, List.flatMap_cons]
    exact List.append_assoc ..
  · rw [blocks, frameOf_evicted_other own]
  · rw [taken, List.mem_cons] at member
    by_cases inRest : y ∈ rest.take k
    · exact gone y inRest
    · obtain rfl := member.resolve_right inRest
      rw [kept y own.symm inRest, frameOf_evicted_same]
  · rw [taken, List.mem_cons, not_or] at new
    rw [kept y other new.2, frameOf_evicted_other new.1]
  · rw [counts]
    have one : (evicted x s).port.counts[(6 : Fin 14)] = oneMore s.port.counts[(6 : Fin 14)] := by simp [evicted]
    rw [one, oneMore_toNat]
    omega

theorem allocBlock_of_free {id : FrameId} {b : Block} {rest : List Block} (free : s.store.freeList = b :: rest) :
    allocBlock id s = (takeBlock id b rest s, true) := by
  simp only [allocBlock, free]

theorem allocBlock_of_none {id : FrameId} (free : s.store.freeList = []) (reclaim : s.store.reclaim = []) :
    allocBlock id s = (raise .storePressure s, false) := by
  simp only [allocBlock, free, evictHead?_nil reclaim]

theorem allocBlock_of_evictable {id x : FrameId} {rest : List FrameId} {b : Block} {left : List Block} (free : s.store.freeList = [])
    (reclaim : s.store.reclaim = x :: rest) (blocks : (frameOf x s).blocks = b :: left) :
    allocBlock id s = (takeBlock id b left (evicted x s), true) := by
  have after : (evicted x s).store.freeList = b :: left := by
    show s.store.freeList ++ _ = _
    rw [free, blocks, List.nil_append]
  simp only [allocBlock, free, evictHead?_cons reclaim, after]

/-- An allocation for a FILLING record takes a block where one is free or can be freed (R105, R117 to R119). -/
theorem allocBlock_cases {id : FrameId} (conserved : StoreConserved s) (filling : (frameOf id s).state = .filling) :
    (s.store.freeList = [] ∧ s.store.reclaim = [] ∧ allocBlock id s = (raise .storePressure s, false))
      ∨ (¬ (s.store.freeList = [] ∧ s.store.reclaim = [])
          ∧ ∃ t k b, allocBlock id s = (t, true) ∧ Allocated id k b s t) := by
  have unlisted : id ∉ s.store.reclaim := fun listed => by
    have := (conserved.reclaimExact id).mp listed
    simp [FrameRecord.evictable, filling] at this
  cases free : s.store.freeList with
  | cons b rest =>
    obtain ⟨k, allocated⟩ := Allocated.takeBlock conserved.reclaimNodup unlisted free
    exact .inr ⟨by simp, _, k, b, allocBlock_of_free free, allocated⟩
  | nil =>
    cases reclaim : s.store.reclaim with
    | nil => exact .inl ⟨rfl, rfl, allocBlock_of_none free reclaim⟩
    | cons x rest =>
      have used : (frameOf x s).state ≠ .free := by
        have := (conserved.reclaimExact x).mp (by rw [reclaim]; exact List.mem_cons_self)
        intro isFree
        simp [FrameRecord.evictable, isFree] at this
      obtain ⟨b, left, blocks⟩ := List.exists_cons_of_length_pos (conserved.usedHolds x used).1
      have after := reclaim_evicted conserved.reclaimNodup reclaim
      have once : (evicted x s).store.reclaim.Nodup := by
        rw [after]
        exact (List.nodup_cons.mp (reclaim ▸ conserved.reclaimNodup)).2
      have still : id ∉ (evicted x s).store.reclaim := fun listed => unlisted (by rw [reclaim]; exact .tail x (after ▸ listed))
      have first : (evicted x s).store.freeList = b :: left := by
        show s.store.freeList ++ _ = _
        rw [free, blocks, List.nil_append]
      obtain ⟨k, allocated⟩ := Allocated.takeBlock once still first
      exact .inr ⟨by simp, _, k + 1, b, allocBlock_of_evictable free reclaim blocks,
        allocated.after_eviction conserved.reclaimNodup unlisted reclaim⟩

/-! ## A matched header (R89 to R91) -/

theorem allFrameIds_eq_finRange : allFrameIds = List.finRange 1024 := by
  refine List.ext_getElem (by simp [allFrameIds]) fun k inside _ => ?_
  have small : k < 1024 := by simpa [allFrameIds] using inside
  refine Fin.ext ?_
  simp [allFrameIds, Nat.mod_eq_of_lt small]

theorem lowestFree_eq_some_iff {id : FrameId} : lowestFree s = some id
    ↔ (frameOf id s).state = .free ∧ ∀ k, k < id → (frameOf k s).state ≠ .free := by
  rw [lowestFree, allFrameIds_eq_finRange, ← Fin.find?_eq_find?_finRange, Fin.find?_eq_some_iff]
  simp

theorem lowestFree_eq_none_iff : lowestFree s = none ↔ ∀ id, (frameOf id s).state ≠ .free := by
  rw [lowestFree, allFrameIds_eq_finRange, ← Fin.find?_eq_find?_finRange, Fin.find?_eq_none_iff]
  simp

theorem takeRecord_of_none (used : ∀ id, (frameOf id s).state ≠ .free) (reclaim : s.store.reclaim = []) : takeRecord s = none := by
  simp only [takeRecord, lowestFree_eq_none_iff.mpr used, evictHead?_nil reclaim]

/-- With no record FREE the head of the reclaim list is evicted, and the record that this frees is taken (R119). -/
theorem takeRecord_of_evicted {id : FrameId} {rest : List FrameId} (used : ∀ k, (frameOf k s).state ≠ .free)
    (reclaim : s.store.reclaim = id :: rest) : takeRecord s = takeRecord (evicted id s) := by
  have free : (frameOf id (evicted id s)).state = .free := by rw [frameOf_evicted_same]; rfl
  obtain ⟨k, lowest⟩ : ∃ k, lowestFree (evicted id s) = some k := by
    refine Option.isSome_iff_exists.mp (Option.isSome_iff_ne_none.mpr fun none_ => ?_)
    exact lowestFree_eq_none_iff.mp none_ id free
  simp only [takeRecord, lowestFree_eq_none_iff.mpr used, evictHead?_cons reclaim, lowest, Option.map_some]

theorem stationAtHeader_eq (i : Item) (p : Station) (o : StationOutcome) (s : State) :
    stationAtHeader i p o s = stationWritten i p o s := by
  unfold stationAtHeader stationWritten
  split_ifs <;> rfl

theorem fillingRecord_eq (word : Word24) (p : Station) (w h d : Nat) (i : Item) :
    fillingRecord word p w h d (i.phase == .void) = { FrameRecord.freed with
      state := .filling, tag := wordTag word, bank := wordBank word, station := p, width := w, height := h, depth := d
      cls := if i.phase = .void then .done else .none } := by
  simp only [fillingRecord, beq_iff_eq]

theorem bytesPerPixel_toNat (depth : Byte) : bytesPerPixel depth.toNat = if depth = 12 then 2 else 1 := by
  have twelve : depth.toNat = 12 ↔ depth = 12 := BitVec.toNat_inj (y := 12)
  simp only [bytesPerPixel, twelve]

/-- The frame of a matched header opens on its port (R89, R92). -/
theorem openFrameOn_eq {i : Item} {p : Station} {id : FrameId} {w h : Nat} {depth : Byte} (same : u.ingest = s.ingest) :
    openFrameOn i p id w h depth.toNat u = withPort p
      (.pixels { frame := id, height := h, expected := w * h * (if depth = 12 then 2 else 1), received := 0,
                 crc := 0xFFFFFFFF#32, atHeader := i.stations[p] })
      (s.ingest.ports[p].fifo ++ [{ frame := id, bytes := [], marked := false, cut := false }])
      (stationWritten i p (outcomeAtHeader i.stations[p] id) u) := by
  rw [openFrameOn, stationAtHeader_eq, bytesPerPixel_toNat, ← same]
  rfl

theorem dropFrame_eq {i : Item} {p : Station} (same : u.ingest = s.ingest) : dropFrame i p u
    = withPort p .discard s.ingest.ports[p].fifo (stationWritten i p .dropped { u with port.flags := u.port.flags ||| (1#16 <<< 9) }) := by
  rw [dropFrame, stationAtHeader_eq, setParser_eq_withPort, ← same]
  rfl

theorem storeMatched_of_taken {i : Item} {p : Station} {word : Word24} {w h d : Nat} {id : FrameId}
    (record : takeRecord s = some (id, t))
    (block : allocBlock id (setFrame id (fillingRecord word p w h d (i.phase == .void)) t) = (u, true)) :
    storeMatched i p word w h d s = openFrameOn i p id w h d u := by
  simp only [storeMatched, record, block]

theorem storeMatched_of_noBlock {i : Item} {p : Station} {word : Word24} {w h d : Nat} {id : FrameId}
    (record : takeRecord s = some (id, t))
    (block : allocBlock id (setFrame id (fillingRecord word p w h d (i.phase == .void)) t) = (u, false)) :
    storeMatched i p word w h d s = dropFrame i p (setFrame id FrameRecord.freed u) := by
  simp only [storeMatched, record, block]

theorem storeMatched_of_noRecord {i : Item} {p : Station} {word : Word24} {w h d : Nat} (record : takeRecord s = none) :
    storeMatched i p word w h d s = dropFrame i p s := by
  simp only [storeMatched, record]

/-- A header in order that finds its item's station open is stored or dropped (R88). -/
theorem exec_frameHeader_matched {p : Station} {word : Word24} {w h : Word16} {depth : Byte} {i : Item}
    (between : betweenFrames p s) (good : headerGood word w h depth) (live : liveItem? (wordTag word) (wordBank word) s = some i)
    (takes : i.stations[p].code ∉ [(0 : Byte), 3, 4, 5]) :
    exec (.frameHeader p (.complete word w h depth)) s = .next (storeMatched i p word w.toNat h.toNat depth.toNat s) := by
  have accepts : i.stations[p].refusesFrame = false := Bool.eq_false_iff.mpr (mt refusesFrame_iff.mp takes)
  rw [exec_frameHeader_between between, headerArrived_of_matched (headerFieldsOk_iff.mpr good) live accepts]

end

end Sys2Proof.Machine

open Sys2Proof Sys2Proof.Machine Sys2Proof.Safety

/-- Settles O34: record, then block, then the station and the parser, or the drop where either fails. -/
theorem matchedHeaderIsStoredOrDropped : Obligations.MatchedHeaderIsStoredOrDropped := by
  unfold Obligations.MatchedHeaderIsStoredOrDropped
  refine ⟨fun p word w h depth s i id b rest between good live takes free lowest blocks met => ?stored,
    fun p word w h depth s i between good live takes noReclaim => ?dropped,
    fun p word w h depth s i id between good live takes => ?evicting⟩
  case stored =>
    have record := takeRecord_of_free _ (lowestFree_eq_some_iff.mpr ⟨free, lowest⟩)
    have block (r : FrameRecord) : allocBlock id (setFrame id r s) = (withBlock id b rest (setFrame id r s), true) := by
      rw [allocBlock_of_free (s := setFrame id r s) blocks, takeBlock_of_watermark (s := setFrame id r s) met]
    have ingest (r : FrameRecord) : (withBlock id b rest (setFrame id r s)).ingest = s.ingest := rfl
    rw [exec_frameHeader_matched between good live takes, storeMatched_of_taken record (block _), openFrameOn_eq (ingest _), withBlock,
      frameOf_setFrame_same, fillingRecord_eq]
    simp only [setFrame, Vector.set_set]
    rfl
  case dropped =>
    intro dropped
    rw [exec_frameHeader_matched between good live takes]
    refine ⟨fun used => ?_, fun id free lowest noBlock => ?_⟩
    · rw [storeMatched_of_noRecord (takeRecord_of_none used noReclaim), dropFrame_eq (s := s) rfl]
    · have record := takeRecord_of_free _ (lowestFree_eq_some_iff.mpr ⟨free, lowest⟩)
      have block := allocBlock_of_none (id := id)
        (s := setFrame id (fillingRecord word p w.toNat h.toNat depth.toNat (i.phase == .void)) s) noBlock noReclaim
      have once (f : Word16) : f ||| (1#16 <<< 9) ||| (1#16 <<< 9) = f ||| (1#16 <<< 9) := by rw [BitVec.or_assoc, BitVec.or_self]
      have ingest (r : FrameRecord) : (setFrame id FrameRecord.freed (raise .storePressure (setFrame id r s))).ingest = s.ingest := rfl
      rw [storeMatched_of_noBlock record block, dropFrame_eq (ingest _)]
      have flags : (setFrame id FrameRecord.freed (raise .storePressure
          (setFrame id (fillingRecord word p w.toNat h.toNat depth.toNat (i.phase == .void)) s))).port.flags
          = s.port.flags ||| (1#16 <<< 9) := rfl
      rw [flags, once]
      simp only [setFrame, raise_eq, Vector.set_set]
      rfl
  case evicting =>
    intro header record
    refine ⟨fun used head => ?_, fun free lowest u block => ?_⟩
    · obtain ⟨rest, reclaim⟩ := List.head?_eq_some_iff.mp head
      have same := takeRecord_of_evicted used reclaim
      have stored : storeMatched i p word w.toNat h.toNat depth.toNat s
          = storeMatched i p word w.toNat h.toNat depth.toNat (evicted id s) := by
        obtain ⟨⟨k, t⟩, taken⟩ : ∃ x, takeRecord (evicted id s) = some x := by
          refine Option.isSome_iff_exists.mp (Option.isSome_iff_ne_none.mpr fun none_ => ?_)
          have isFree : (frameOf id (evicted id s)).state = .free := by rw [frameOf_evicted_same]; rfl
          cases lowest : lowestFree (evicted id s) with
          | none => exact lowestFree_eq_none_iff.mp lowest id isFree
          | some k => rw [takeRecord_of_free _ lowest] at none_; cases none_
        simp only [storeMatched, same, taken]
      exact (exec_frameHeader_matched between good live takes).trans
        ((congrArg Host.Outcome.next stored).trans (exec_frameHeader_matched (s := evicted id s) between good live takes).symm)
    · have taken := takeRecord_of_free _ (lowestFree_eq_some_iff.mpr ⟨free, lowest⟩)
      have ingest : u.ingest = s.ingest := by
        have := allocBlock_ingest { s with store.frames := s.store.frames.set id.val record id.isLt } id
        rw [block] at this
        exact this
      have filled : allocBlock id (setFrame id (fillingRecord word p w.toNat h.toNat depth.toNat (i.phase == .void)) s) = (u, true) := by
        rw [fillingRecord_eq]
        exact block
      rw [exec_frameHeader_matched between good live takes, storeMatched_of_taken taken filled, openFrameOn_eq ingest]

/-- Settles O35: the block is taken first, and the evictions follow one by one from the head of the reclaim list. -/
theorem allocationEvictsFromTheHead : Obligations.AllocationEvictsFromTheHead := by
  unfold Obligations.AllocationEvictsFromTheHead
  intro id s conserved filling
  obtain ⟨free, reclaim, fails⟩ | ⟨some_, t, k, b, takes, allocated⟩ := allocBlock_cases conserved filling
  · refine ⟨by rw [fails]; simp [free, reclaim], fun t failed => ?_, fun t taken => ?_⟩
    · rw [fails] at failed
      cases failed
      rfl
    · rw [fails] at taken
      cases taken
  · refine ⟨by rw [takes]; simpa using some_, fun u failed => ?_, fun u taken => ?_⟩
    · rw [takes] at failed
      cases failed
    · rw [takes] at taken
      cases taken
      obtain ⟨within, rest, freeList, own, gone, kept, stops, counts, flags⟩ := allocated
      exact ⟨k, b, within, rest, freeList, own, gone, kept, stops, counts, flags⟩
end

section
/-! The write path: O38, O39 (6.5). -/

namespace Sys2Proof.Machine

open Sys2Proof.Safety

variable {s u : State} {p : Station} {f : FifoFrame} {rest : List FifoFrame}

/-! ## A record replaced twice -/

theorem withFrame_setFrame (id : FrameId) (r q : FrameRecord) (s : State) : withFrame id r (setFrame id q s) = withFrame id r s := by
  simp [withFrame, setFrame]

theorem frameEnded_setFrame (id : FrameId) (r q : FrameRecord) (s : State) : frameEnded id r (setFrame id q s) = frameEnded id r s :=
  withFrame_setFrame id { r with state := .ready, cls := classR99 r s } q s

theorem setFrame_self (id : FrameId) (s : State) : setFrame id (frameOf id s) s = s :=
  congrArg (fun frames => { s with store.frames := frames }) (Vector.set_getElem_self id.isLt)

theorem withPort_updPort (p : Station) (k : Port → Port) (q : Parser) (l : List FifoFrame) (s : State) :
    withPort p q l (updPort p k s) = withPort p q l s :=
  updPort_updPort p k (fun _ => { parser := q, fifo := l }) s

theorem frameOf_withFrame_same (id : FrameId) (r : FrameRecord) (s : State) : frameOf id (withFrame id r s) = settled r := by
  simp [frameOf, withFrame]

theorem frameOf_withFrame_other {id x : FrameId} (r : FrameRecord) (s : State) (other : x ≠ id) :
    frameOf x (withFrame id r s) = frameOf x s :=
  frameOf_setFrame_other _ _ other

theorem settled_of_held {r : FrameRecord} (held : ¬ unheld r) : settled r = r :=
  if_neg held

/-! ## WRITE_GRANT (R96, R98) -/

theorem room_eq (r : FrameRecord) : r.room = 65536 * r.blocks.length - r.payload := rfl

theorem portReady_iff : portReady p s = true ↔ ∃ f rest, s.ingest.ports[p].fifo = f :: rest ∧ f.cut = false
    ∧ (f.marked = true ∨ (let r := frameOf f.frame s
        let left := 65536 * r.blocks.length - r.payload
        (if left = 0 then 65536 else left) ≤ f.bytes.length)) := by
  unfold portReady
  split
  next x rest fifo =>
    rw [fifo]
    rw [Bool.and_eq_true, Bool.not_eq_true', Bool.or_eq_true, decide_eq_true_iff]
    constructor
    · exact fun ready => ⟨x, rest, rfl, ready⟩
    · rintro ⟨y, l, same, ready⟩
      cases same
      exact ready
  next fifo =>
    rw [fifo]
    simp

theorem nextReady_eq_some {k : Fin 8} (ready : portReady (s.ingest.pointer + k) s = true)
    (first : ∀ j, j < k → portReady (s.ingest.pointer + j) s = false) : nextReady s = some (s.ingest.pointer + k) := by
  rw [nextReady, List.find?_map]
  have found : allStations.find? ((fun p => portReady p s) ∘ fun k => s.ingest.pointer + k) = some k :=
    find?_allStations_eq_some_iff.mpr ⟨ready, first⟩
  rw [found]
  rfl

theorem nextReady_eq_none (none_ : ∀ p, portReady p s = false) : nextReady s = none := by
  rw [nextReady, List.find?_map]
  have found : allStations.find? ((fun p => portReady p s) ∘ fun k => s.ingest.pointer + k) = none :=
    find?_allStations_eq_none_iff.mpr fun k => none_ _
  rw [found]
  rfl

theorem exec_writeGrant_of_next (free : s.ingest.grant = none) (next : nextReady s = some p) (fifo : s.ingest.ports[p].fifo = f :: rest) :
    exec .writeGrant s = .next (startGrant p f rest { s with ingest.pointer := p + 1 }) := by
  simp only [exec, execWriteGrant, free, next, grantPort, fifo]

theorem exec_writeGrant_of_none (idle : s.ingest.grant ≠ none ∨ nextReady s = none) : exec .writeGrant s = .next s := by
  show Host.Outcome.next _ = _
  split
  next free next => simp [free, next] at idle
  all_goals rfl

/-- Where no block is needed the grant starts as it is (R97). -/
theorem startGrant_of_room (room : f.bytes = [] ∨ (frameOf f.frame s).payload < 65536 * (frameOf f.frame s).blocks.length) :
    startGrant p f rest s = { s with ingest.grant := some p } := by
  rw [startGrant, if_neg]
  rw [room_eq]
  rcases room with empty | inside
  · simp [empty]
  · simp [Nat.sub_ne_zero_of_lt inside]

theorem startGrant_of_full (bytes : f.bytes ≠ []) (full : 65536 * (frameOf f.frame s).blocks.length ≤ (frameOf f.frame s).payload) :
    startGrant p f rest s = if 128 ≤ (frameOf f.frame s).blocks.length then truncateFrame p f rest s
      else match allocBlock f.frame s with
        | (t, true) => { t with ingest.grant := some p }
        | (t, false) => truncateFrame p f rest t := by
  rw [startGrant, if_pos]
  · rfl
  · rw [room_eq, Nat.sub_eq_zero_of_le full]
    simp [bytes]

/-- A frame cut off in its grant (R98): one whose mark has been placed ends at once. -/
theorem truncateFrame_eq (free : u.ingest.grant = none) : truncateFrame p f rest u =
    if f.marked then frameEnded f.frame { frameOf f.frame u with truncated := true } (withPort p u.ingest.ports[p].parser rest u)
    else withPort p u.ingest.ports[p].parser ({ f with bytes := [], cut := true } :: rest)
      (setFrame f.frame { frameOf f.frame u with truncated := true } u) := by
  have ungranted : ({ u with ingest.grant := none } : State) = u := by rw [← free]
  have fifo : (updPort p (fun t => { t with fifo := { f with bytes := [], cut := true } :: rest })
      (setFrame f.frame { frameOf f.frame u with truncated := true } u)).ingest.ports[p].fifo
        = { f with bytes := [], cut := true } :: rest := by rw [parser_updPort]
  rw [truncateFrame, ungranted]
  split_ifs with marked
  · rw [settleFifo_of_ended fifo (by simp [marked]), updPort_updPort, frameEnds_eq]
    show frameEnded f.frame (frameOf f.frame (setFrame f.frame { frameOf f.frame u with truncated := true } u))
      (setFrame f.frame { frameOf f.frame u with truncated := true } (withPort p u.ingest.ports[p].parser rest u)) = _
    rw [frameOf_setFrame_same, frameEnded_setFrame]
  · rw [settleFifo_of_settled fun x head => ?_]
    · rfl
    · rw [fifo] at head
      cases head
      simpa using marked

/-! ## GRANT_END (R97, R99) -/

/-- What the frame store holds once a run of bytes has been written for a record's next payload (R107). -/
def memAfter (r : FrameRecord) (bs : List Byte) (m : List Host.Cell) : List Host.Cell :=
  match r.byteAddress r.payload with
  | some a => Memory.writeBytes m a bs
  | none => m

theorem byteAddress_eq_some {r : FrameRecord} {i : Nat} {b : Block} (block : r.blocks[i / 65536]? = some b) :
    r.byteAddress i = some (65536 * b.val + i % 65536) := by
  rw [FrameRecord.byteAddress, Config.blockSize, block]
  rfl

/-- A grant's bytes are written and join the payload, where there is room for any (R97). -/
theorem writeGranted_eq {id : FrameId} {bs : List Byte}
    (room : bs = [] ∨ (frameOf id s).payload < 65536 * (frameOf id s).blocks.length) : writeGranted id bs s =
      setFrame id { frameOf id s with payload := (frameOf id s).payload + bs.length }
        { s with store.mem := memAfter (frameOf id s) bs s.store.mem } := by
  cases address : (frameOf id s).byteAddress (frameOf id s).payload with
  | some a => simp only [writeGranted, memAfter, address]
  | none =>
    have empty : bs = [] := by
      refine room.resolve_right fun inside => ?_
      have place : (frameOf id s).payload / 65536 < (frameOf id s).blocks.length := Nat.div_lt_of_lt_mul inside
      rw [byteAddress_eq_some (List.getElem?_eq_getElem place)] at address
      cases address
    simp only [writeGranted, memAfter, address, empty]
    exact (setFrame_self id s).symm

theorem length_grantBytes (f : FifoFrame) (s : State) :
    (grantBytes f s).length = min f.bytes.length (65536 * (frameOf f.frame s).blocks.length - (frameOf f.frame s).payload) := by
  rw [grantBytes, List.length_take, room_eq, Nat.min_comm]

/-- The end of a grant (R97, R99): the bytes written leave the FIFO, and with the mark reached the frame ends. -/
theorem finishGrant_eq (fifo : s.ingest.ports[p].fifo = f :: rest)
    (room : f.bytes = [] ∨ (frameOf f.frame s).payload < 65536 * (frameOf f.frame s).blocks.length) :
    let n := min f.bytes.length (65536 * (frameOf f.frame s).blocks.length - (frameOf f.frame s).payload)
    let written : FrameRecord := { frameOf f.frame s with payload := (frameOf f.frame s).payload + n }
    let v : State := { s with store.mem := memAfter (frameOf f.frame s) (grantBytes f s) s.store.mem }
    finishGrant p s = if n = f.bytes.length ∧ f.marked = true then frameEnded f.frame written (withPort p s.ingest.ports[p].parser rest v)
      else withPort p s.ingest.ports[p].parser ({ f with bytes := f.bytes.drop n } :: rest) (setFrame f.frame written v) := by
  intro n written v
  have length : (grantBytes f s).length = n := length_grantBytes f s
  have granted : writeGranted f.frame (grantBytes f s) s = setFrame f.frame written v := by
    rw [writeGranted_eq (room.imp_left fun empty => by rw [grantBytes, empty, List.take_nil]), length]
  have whole : ((f.bytes.drop n).isEmpty && f.marked) = true ↔ n = f.bytes.length ∧ f.marked = true := by
    have few : n ≤ f.bytes.length := Nat.min_le_left ..
    rw [Bool.and_eq_true, List.isEmpty_iff, List.drop_eq_nil_iff, ge_iff_le.symm.trans few.ge_iff_eq', eq_comm]
  simp only [finishGrant, fifo]
  rw [granted, length]
  by_cases ended : n = f.bytes.length ∧ f.marked = true
  · rw [if_pos ended, if_pos (whole.mpr ended), frameEnds_eq]
    show frameEnded f.frame (frameOf f.frame (setFrame f.frame written v))
      (setFrame f.frame written (withPort p s.ingest.ports[p].parser rest v)) = _
    rw [frameOf_setFrame_same, frameEnded_setFrame]
  · rw [if_neg ended, if_neg (mt whole.mp ended)]
    rfl

end Sys2Proof.Machine

open Sys2Proof Sys2Proof.Machine Sys2Proof.Safety

/-- Settles O38: the first ready port, and what its head frame's need of a block makes of the grant. -/
theorem writeGrantCases : Obligations.WriteGrantCases := by
  unfold Obligations.WriteGrantCases
  refine ⟨fun s => ?granted, fun s k f rest free first => ?blocked⟩
  case granted =>
    intro ready
    have isReady (p : Station) : ready p ↔ portReady p s = true := portReady_iff.symm
    refine ⟨fun idle => ?_, fun k free here first f rest fifo room => ?_⟩
    · refine exec_writeGrant_of_none (idle.imp_right fun none_ => nextReady_eq_none fun p => ?_)
      exact Bool.eq_false_iff.mpr fun yes => none_ p ((isReady p).mpr yes)
    · have next := nextReady_eq_some ((isReady _).mp here) fun j before =>
        Bool.eq_false_iff.mpr fun yes => first j before ((isReady _).mpr yes)
      rw [exec_writeGrant_of_next free next fifo, startGrant_of_room (s := { s with ingest.pointer := s.ingest.pointer + k + 1 }) room]
  case blocked =>
    intro p fifo uncut bytes fills full moved short cut
    have ready : portReady p s = true := by
      refine portReady_iff.mpr ⟨f, rest, fifo, uncut, fills.imp_right fun enough => ?_⟩
      dsimp only
      rw [Nat.sub_eq_zero_of_le full, if_pos rfl]
      exact enough
    have granted := exec_writeGrant_of_next free (nextReady_eq_some ready first) fifo
    rw [startGrant_of_full (s := moved) bytes full] at granted
    refine ⟨fun most => ?_, fun few noBlock noReclaim => ?_, fun u few block => ?_⟩
    · rw [granted, if_pos (show 128 ≤ (frameOf f.frame moved).blocks.length from most)]
      exact congrArg Host.Outcome.next (truncateFrame_eq (u := moved) free)
    · rw [granted, if_neg (show ¬ 128 ≤ (frameOf f.frame moved).blocks.length from Nat.not_le.mpr few),
        allocBlock_of_none (s := moved) noBlock noReclaim]
      exact congrArg Host.Outcome.next (truncateFrame_eq (u := raise .storePressure moved) free)
    · rw [granted, if_neg (show ¬ 128 ≤ (frameOf f.frame moved).blocks.length from Nat.not_le.mpr few), block]

/-- Settles O39: the bytes written are the FIFO's next, place by place. -/
theorem grantEndCases : Obligations.GrantEndCases := by
  unfold Obligations.GrantEndCases
  have finished {p : Station} {f : FifoFrame} {rest : List FifoFrame} {s : State} (granted : s.ingest.grant = some p)
      (fifo : s.ingest.ports[p].fifo = f :: rest)
      (room : f.bytes = [] ∨ (frameOf f.frame s).payload < 65536 * (frameOf f.frame s).blocks.length) :=
    (show exec .grantEnd s = .next (finishGrant p { s with ingest.grant := none }) by simp only [exec, execGrantEnd, granted]).trans
      (congrArg Host.Outcome.next (finishGrant_eq (s := { s with ingest.grant := none }) fifo room))
  refine ⟨fun p f rest s canonical granted fifo room => ?writes, fun s none_ => ?idle, fun p f rest s granted fifo marked fits => ?ends⟩
  case writes =>
    intro r n written base
    refine ⟨memAfter r (grantBytes f s) s.store.mem, finished granted fifo room, fun empty => ?_, fun b some_ block => ?_⟩
    · have none_ : grantBytes f s = [] := by rw [grantBytes, empty, List.take_nil]
      unfold memAfter
      split
      · rw [none_]; rfl
      · rfl
    · intro start
      have address : memAfter r (grantBytes f s) s.store.mem = Memory.writeBytes s.store.mem start (grantBytes f s) := by
        rw [memAfter, byteAddress_eq_some block]
      have length : (grantBytes f s).length = n := length_grantBytes f s
      rw [address]
      refine ⟨fun k inside => ?_, fun a outside => Memory.read_writeBytes_outside _ _ _ (by rwa [length])⟩
      have place : k < (grantBytes f s).length := by rwa [length]
      have there : k < f.bytes.length := Nat.lt_of_lt_of_le inside (Nat.min_le_left ..)
      rw [Memory.read_writeBytes_inside _ _ canonical place]
      simp [grantBytes, there]
  case idle => simp only [exec, execGrantEnd, none_]
  case ends =>
    intro r cls
    have room : f.bytes = [] ∨ (frameOf f.frame s).payload < 65536 * (frameOf f.frame s).blocks.length := by
      rcases Nat.eq_zero_or_pos f.bytes.length with none_ | some_
      · exact .inl (List.eq_nil_of_length_eq_zero none_)
      · exact .inr (by omega)
    have all : min f.bytes.length (65536 * r.blocks.length - r.payload) = f.bytes.length := Nat.min_eq_left fits
    let v : State := withPort p s.ingest.ports[p].parser rest
      { s with ingest.grant := none, store.mem := memAfter r (grantBytes f s) s.store.mem }
    let ready : FrameRecord := { r with state := .ready, cls := cls, payload := r.payload + f.bytes.length }
    have classed : classR99 { r with payload := r.payload + f.bytes.length } v = cls := by
      simp only [classR99, cls, Option.mem_toList]
      rfl
    have done : exec .grantEnd s = .next (withFrame f.frame ready v) := by
      refine (finished granted fifo room).trans (congrArg Host.Outcome.next ((if_pos ⟨all, marked⟩).trans ?_))
      show withFrame f.frame { r with
        state := .ready
        cls := classR99 { r with payload := r.payload + min f.bytes.length (65536 * r.blocks.length - r.payload) } v
        payload := r.payload + min f.bytes.length (65536 * r.blocks.length - r.payload) } v = _
      rw [all, classed]
    refine ⟨_, done, rfl, ?_, fun isDone unkept0 unkept1 closed => ?_, fun held => ?_, fun id other => ?_⟩
    · show (withPort p s.ingest.ports[p].parser rest _).ingest.ports[p].fifo = rest
      exact congrArg Port.fifo (parser_updPort p (fun _ => { parser := s.ingest.ports[p].parser, fifo := rest }) _)
    · have freed : unheld ready := ⟨rfl, isDone, unkept0, unkept1, closed⟩
      exact ⟨(frameOf_withFrame_same ..).trans (if_pos freed), if_pos freed⟩
    · have kept : ¬ unheld ready := by
        rintro ⟨-, isDone, unkept0, unkept1, closed⟩
        rcases held with other | one | two | open_
        · exact other isDone
        · exact Bool.noConfusion (unkept0.symm.trans one)
        · exact Bool.noConfusion (unkept1.symm.trans two)
        · exact open_ closed
      exact (frameOf_withFrame_same ..).trans (settled_of_held kept)
    · exact frameOf_withFrame_other ready v other
end

section
/-! The gates: O48, O49, O50 (chapter 9). -/

namespace Sys2Proof.Machine

open Sys2Proof.Safety

variable {s : State} {g : Gate}

/-! ## One gate replaced -/

theorem updGate_eq_withGate (g : Gate) (k : GateState → GateState) (s : State) :
    updGate g k s = withGate g (k (gateOf g s)) s := by
  cases g <;> rfl

theorem gateOf_withGate_same (g : Gate) (x : GateState) (s : State) : gateOf g (withGate g x s) = x := by
  cases g <;> rfl

theorem gateOf_withGate_other {g h : Gate} (x : GateState) (s : State) (other : h ≠ g) :
    gateOf h (withGate g x s) = gateOf h s := by
  cases g <;> cases h <;> first | rfl | exact absurd rfl other

theorem withGate_withGate (g : Gate) (x y : GateState) (s : State) : withGate g y (withGate g x s) = withGate g y s := by
  cases g <;> rfl

theorem withGate_eq (g : Gate) (x : GateState) (s : State) : withGate g x s = { s with gates := (withGate g x s).gates } := by
  cases g <;> rfl

theorem withGate_items (g : Gate) (x : GateState) (s : State) : (withGate g x s).queue.items = s.queue.items := by
  cases g <;> rfl

/-- A gate and the records replaced twice. -/
theorem withGate_withItems (g : Gate) (x y : GateState) (l m : List Item) (s : State) :
    withGate g y { withGate g x { s with queue.items := l } with queue.items := m }
      = withGate g y { s with queue.items := m } := by
  cases g <;> rfl

theorem updItem_withGate (tag : Tag) (k : Item → Item) (g : Gate) (x : GateState) (s : State) : updItem tag k (withGate g x s)
    = withGate g x { s with queue.items := s.queue.items.map fun j => if j.tag = tag then k j else j } := by
  cases g <;> rfl

theorem withGate_lamp (g : Gate) (x : GateState) (s : State) : (withGate g x s).gates.lamp = s.gates.lamp := by
  cases g <;> rfl

theorem withGate_self (g : Gate) (s : State) : withGate g (gateOf g s) s = s := by
  cases g <;> rfl

/-! ## Starts (R148, R149) -/

/-- The fires of a list that carry one of some tags take a status. -/
def statusOn (y : FireStatus) (tags : List Tag) (l : List Fire) : List Fire :=
  l.map fun f => if f.tag ∈ tags then { f with status := y } else f

/-- The records that carry one of some tags take a phase and a gate outcome. -/
def outcomeOn (p : Phase) (o : GateOutcome) (tags : List Tag) (l : List Item) : List Item :=
  l.map fun j => if j.tag ∈ tags then { j with phase := p, gateOutcome := o } else j

theorem statusOn_cons (y : FireStatus) (tag : Tag) (tags : List Tag) (l : List Fire) :
    statusOn y tags (l.map fun f => if f.tag = tag then { f with status := y } else f) = statusOn y (tag :: tags) l := by
  rw [statusOn, statusOn, List.map_map]
  refine List.map_congr_left fun f _ => ?_
  by_cases own : f.tag = tag <;> by_cases later : f.tag ∈ tags <;> simp [own, later]

theorem outcomeOn_cons (p : Phase) (o : GateOutcome) (tag : Tag) (tags : List Tag) (l : List Item) :
    outcomeOn p o tags (l.map fun j => if j.tag = tag then { j with phase := p, gateOutcome := o } else j)
      = outcomeOn p o (tag :: tags) l := by
  rw [outcomeOn, outcomeOn, List.map_map]
  refine List.map_congr_left fun j _ => ?_
  by_cases own : j.tag = tag <;> by_cases later : j.tag ∈ tags <;> simp [own, later]

theorem outcomeOn_outcomeOn (p : Phase) (o : GateOutcome) (tag : Tag) (tags : List Tag) (l : List Item) :
    outcomeOn p o tags (outcomeOn p o [tag] l) = outcomeOn p o (tag :: tags) l := by
  rw [← outcomeOn_cons p o tag tags]
  simp only [outcomeOn, List.mem_singleton]

theorem startFire_of_recovery {e : Word32} {tag : Tag} (output : (gateOf g s).output = .recovery e) :
    startFire g tag s = withGate g ((gateOf g s).setStatus tag .held) s := by
  simp only [startFire, output, updGate_eq_withGate]

theorem startFire_of_on {tag : Tag} (output : (gateOf g s).output = .on) : startFire g tag s
    = withGate g ((gateOf g s).setStatus tag .on) { s with queue.items := outcomeOn .firing .merged [tag] s.queue.items } := by
  simp only [startFire, output, updGate_eq_withGate, setGateOutcome, updItem_withGate, outcomeOn, List.mem_singleton]

theorem startFire_of_idle {tag : Tag} (output : (gateOf g s).output = .idle) : startFire g tag s
    = withGate g { (gateOf g s).setStatus tag .on with output := .on }
        { s with queue.items := outcomeOn .firing .fired [tag] s.queue.items } := by
  simp only [startFire, output, updGate_eq_withGate, setGateOutcome, updItem_withGate, outcomeOn, List.mem_singleton]

theorem foldl_startFire_of_recovery {e : Word32} (output : (gateOf g s).output = .recovery e) (tags : List Tag) :
    tags.foldl (fun t tag => startFire g tag t) s
      = withGate g { gateOf g s with fires := statusOn .held tags (gateOf g s).fires } s := by
  induction tags generalizing s with
  | nil =>
    have none_ : statusOn .held [] (gateOf g s).fires = (gateOf g s).fires := by simp [statusOn]
    rw [none_]
    exact (withGate_self g s).symm
  | cons tag tags ih =>
    have after := gateOf_withGate_same g ((gateOf g s).setStatus tag .held) s
    rw [List.foldl_cons, startFire_of_recovery output, ih (by rw [after]; exact output), after, withGate_withGate,
      ← statusOn_cons]
    rfl

theorem foldl_startFire_of_on (output : (gateOf g s).output = .on) (tags : List Tag) :
    tags.foldl (fun t tag => startFire g tag t) s = withGate g { output := .on, fires := statusOn .on tags (gateOf g s).fires }
      { s with queue.items := outcomeOn .firing .merged tags s.queue.items } := by
  induction tags generalizing s with
  | nil =>
    have none_ : statusOn .on [] (gateOf g s).fires = (gateOf g s).fires := by simp [statusOn]
    have same : outcomeOn .firing .merged [] s.queue.items = s.queue.items := by simp [outcomeOn]
    rw [none_, same, ← output]
    exact (withGate_self g s).symm
  | cons tag tags ih =>
    rw [List.foldl_cons, startFire_of_on output, ih (by rw [gateOf_withGate_same]; exact output), gateOf_withGate_same,
      withGate_items,
      withGate_withItems, ← statusOn_cons, outcomeOn_outcomeOn]
    rfl

/-- On an IDLE gate the first start turns the output on, and the others merge with it (R149). -/
theorem foldl_startFire_of_idle (output : (gateOf g s).output = .idle) (tag : Tag) (tags : List Tag) :
    (tag :: tags).foldl (fun t tag => startFire g tag t) s
      = withGate g { output := .on, fires := statusOn .on (tag :: tags) (gateOf g s).fires }
      { s with queue.items := outcomeOn .firing .merged tags (outcomeOn .firing .fired [tag] s.queue.items) } := by
  rw [List.foldl_cons, startFire_of_idle output, foldl_startFire_of_on (by rw [gateOf_withGate_same]), gateOf_withGate_same,
    withGate_items, withGate_withItems, ← statusOn_cons]
  rfl

/-- A SCHEDULED fire whose start is reached (R148). -/
def startsNow (s : State) (f : Fire) : Bool :=
  f.status == .scheduled && f.startReached s

theorem startsNow_iff {f : Fire} : startsNow s f = true ↔ f.status = .scheduled ∧ reached s.pos.position f.start := by
  rw [startsNow, Bool.and_eq_true, beq_iff_eq, Fire.startReached, positionReached_iff]

theorem startFires_eq (g : Gate) (s : State) : startFires g s =
    (((gateOf g s).fires.filter (startsNow s)).map Fire.tag).foldl (fun t tag => startFire g tag t) s :=
  rfl

theorem startFires_of_none (none_ : ∀ f ∈ (gateOf g s).fires, startsNow s f = false) : startFires g s = s := by
  rw [startFires_eq, List.filter_eq_nil_iff.mpr fun f member => by rw [none_ f member]; exact Bool.false_ne_true]
  rfl

/-- With the tags apart, the fires that start are the ones that carry the tag of one that starts. -/
theorem statusOn_starting {l : List Fire} {test : Fire → Bool} (apart : (l.map Fire.tag).Nodup) (y : FireStatus) :
    statusOn y ((l.filter test).map Fire.tag) l = l.map fun f => if test f then { f with status := y } else f := by
  refine List.map_congr_left fun f member => ?_
  have own : f.tag ∈ (l.filter test).map Fire.tag ↔ test f = true := by
    refine ⟨fun listed => ?_, fun hit => List.mem_map.mpr ⟨f, List.mem_filter.mpr ⟨member, hit⟩, rfl⟩⟩
    obtain ⟨e, inside, same⟩ := List.mem_map.mp listed
    obtain ⟨there, hit⟩ := List.mem_filter.mp inside
    rwa [List.inj_on_of_nodup_map apart there member same] at hit
  simp only [own]

/-- Once the fires that start have another status, an examination has no start left. -/
theorem startFires_of_started {y : FireStatus} {x : GateState} {t : State} (status : y ≠ .scheduled) (pos : t.pos = s.pos)
    (fires : x.fires = (gateOf g s).fires.map fun f => if startsNow s f then { f with status := y } else f) :
    startFires g (withGate g x t) = withGate g x t := by
  refine startFires_of_none fun f member => ?_
  rw [gateOf_withGate_same, fires] at member
  obtain ⟨e, -, rfl⟩ := List.mem_map.mp member
  have same : (withGate g x t).pos = s.pos := by rw [← pos]; cases g <;> rfl
  rw [← Bool.not_eq_true, startsNow_iff, same]
  split
  next => exact fun h => status h.1
  next still => exact fun h => still (startsNow_iff.mpr h)

/-! ## Ends (R150) -/

theorem foldl_passItem (l : List Fire) (s : State) : l.foldl (fun t f => passItem f.tag t) s = { s with
    queue.items := s.queue.items.map fun j => if l.any fun f => f.tag == j.tag then { j with phase := .passed } else j } := by
  induction l generalizing s with
  | nil => simp
  | cons f l ih =>
    rw [List.foldl_cons, ih]
    have items : ((passItem f.tag s).queue.items.map fun j => if l.any fun f => f.tag == j.tag then { j with phase := .passed } else j)
        = s.queue.items.map fun j => if (f :: l).any fun f => f.tag == j.tag then { j with phase := .passed } else j := by
      show List.map _ (List.map _ _) = _
      rw [List.map_map]
      refine List.map_congr_left fun j _ => ?_
      rw [List.any_cons]
      by_cases own : j.tag = f.tag
      · simp [own]
      · have other : (f.tag == j.tag) = false := beq_eq_false_iff_ne.mpr (Ne.symm own)
        simp [own, other]
    rw [items]
    rfl

/-- The ends of an examination: the fires leave the list and their items are PASSED; the output goes off with the last. -/
theorem endFires_eq (g : Gate) (s : State) : endFires g s = withGate g
    { fires := (gateOf g s).fires.filter fun f => !f.endsNow s
      output := if (gateOf g s).output = .on ∧ ∀ f ∈ (gateOf g s).fires.filter (fun e : Fire => !e.endsNow s), f.status ≠ .on
        then outputOff g s else (gateOf g s).output }
    { s with queue.items := s.queue.items.map fun j =>
        if (gateOf g s).fires.any fun f => f.endsNow s && f.tag == j.tag then { j with phase := .passed } else j } := by
  have off : ((gateOf g s).output == .on && ((gateOf g s).fires.filter fun f => !f.endsNow s).all fun f => f.status != .on) = true
      ↔ (gateOf g s).output = .on ∧ ∀ f ∈ (gateOf g s).fires.filter (fun f => !f.endsNow s), f.status ≠ .on := by
    rw [Bool.and_eq_true, beq_iff_eq, List.all_eq_true]
    simp only [bne_iff_ne]
  simp only [endFires, foldl_passItem, updGate_eq_withGate, List.any_filter, off, withGate_items]
  cases g <;> rfl

/-! ## Examinations of a gate -/

/-- An examination is one of the state in which the starts have happened. -/
theorem examineGate_of_starts {t : State} (starts : startFires g s = t) (done : startFires g t = t) :
    examineGate g s = examineGate g t := by
  rw [examineGate, examineGate, starts, done]

theorem startsNow_eq (s : State) :
    startsNow s = fun f => decide (f.status = .scheduled ∧ 0 ≤ (s.pos.position - f.start).toInt) := by
  funext f
  rw [Bool.eq_iff_iff, decide_eq_true_iff, startsNow_iff]
  rfl

theorem endsNow_eq (s : State) :
    Fire.endsNow s = fun f => decide (f.status = .on ∧ 0 ≤ (s.pos.position - f.stop).toInt) := by
  funext f
  rw [Bool.eq_iff_iff, decide_eq_true_iff, Fire.endsNow, Bool.and_eq_true, beq_iff_eq, Fire.stopReached, positionReached_iff]
  rfl

theorem any_tag_eq_true_iff {l : List Fire} {tag : Tag} : (l.any fun f => f.tag == tag) = true ↔ tag ∈ l.map Fire.tag := by
  rw [List.any_eq_true, List.mem_map]
  simp only [beq_iff_eq]

/-- In RECOVERY the fires that start are HELD. -/
theorem examineGate_of_recovery {e : Word32} (apart : ((gateOf g s).fires.map Fire.tag).Nodup)
    (output : (gateOf g s).output = .recovery e) : examineGate g s = examineGate g (withGate g { gateOf g s with
      fires := (gateOf g s).fires.map fun f => if startsNow s f then { f with status := .held } else f } s) := by
  refine examineGate_of_starts ?_ (startFires_of_started (y := .held) (by decide) rfl rfl)
  rw [startFires_eq, foldl_startFire_of_recovery output, statusOn_starting apart]

/-- The outcome of a start on a gate that may be IDLE: FIRED for the first in list order, MERGED otherwise (R149). -/
def startOutcome (output : GateOutput) (started : List Fire) (tag : Tag) : GateOutcome :=
  if output = .idle ∧ started.head?.map Fire.tag = some tag then .fired else .merged

/-- The records of the fires that start, on a gate that is not in RECOVERY (R149). -/
def itemsStarted (output : GateOutput) (started : List Fire) (l : List Item) : List Item :=
  l.map fun j => if started.any fun f => f.tag == j.tag then
      { j with phase := .firing, gateOutcome := startOutcome output started j.tag }
    else j

theorem itemsStarted_of_on (started : List Fire) (l : List Item) :
    itemsStarted .on started l = outcomeOn .firing .merged (started.map Fire.tag) l := by
  refine List.map_congr_left fun j _ => ?_
  simp only [any_tag_eq_true_iff, startOutcome, reduceCtorEq, false_and, if_false]

theorem itemsStarted_of_idle {f : Fire} {rest : List Fire} (apart : ((f :: rest).map Fire.tag).Nodup) (l : List Item) :
    itemsStarted .idle (f :: rest) l
      = outcomeOn .firing .merged (rest.map Fire.tag) (outcomeOn .firing .fired [f.tag] l) := by
  rw [outcomeOn, outcomeOn, List.map_map]
  refine List.map_congr_left fun j _ => ?_
  rw [List.map_cons, List.nodup_cons] at apart
  simp only [any_tag_eq_true_iff, List.map_cons, List.mem_cons, startOutcome, List.head?_cons, Option.map_some, Option.some.injEq,
    true_and, Function.comp_apply, List.not_mem_nil, or_false]
  by_cases own : j.tag = f.tag
  · have first : j.tag ∉ rest.map Fire.tag := own ▸ apart.1
    simp [own, apart.1]
  · simp [own, Ne.symm own]

/-- On a gate that is IDLE or ON the fires that start are ON, and their items FIRING (R149). -/
theorem examineGate_of_off_recovery (apart : ((gateOf g s).fires.map Fire.tag).Nodup)
    (output : (gateOf g s).output = .idle ∨ (gateOf g s).output = .on) (some_ : (gateOf g s).fires.filter (startsNow s) ≠ []) :
    examineGate g s = examineGate g (withGate g
      { output := .on, fires := (gateOf g s).fires.map fun f => if startsNow s f then { f with status := .on } else f }
      { s with queue.items := itemsStarted (gateOf g s).output ((gateOf g s).fires.filter (startsNow s)) s.queue.items }) := by
  refine examineGate_of_starts ?_ (startFires_of_started (y := .on) (by decide) rfl rfl)
  have starting := statusOn_starting (test := startsNow s) apart .on
  have own : (((gateOf g s).fires.filter (startsNow s)).map Fire.tag).Nodup := apart.sublist (List.filter_sublist.map _)
  rw [startFires_eq]
  obtain ⟨f, rest, started⟩ := List.exists_cons_of_ne_nil some_
  rcases output with idle | on
  · rw [started] at own starting ⊢
    rw [List.map_cons] at starting ⊢
    rw [foldl_startFire_of_idle idle, starting, idle, itemsStarted_of_idle own]
  · rw [foldl_startFire_of_on on, starting, on, itemsStarted_of_on]

/-! ## A placed fire (R147) -/

theorem scheduledFire?_eq_none_iff {tag : Tag} :
    scheduledFire? g tag s = none ↔ ∀ f ∈ (gateOf g s).fires, ¬ (f.tag = tag ∧ f.status = .scheduled) := by
  simp only [scheduledFire?, List.find?_eq_none, Bool.and_eq_true, beq_iff_eq]

theorem exec_gateExaminationAfterPlacing_of_none {tag : Tag} (none_ : ∀ g, scheduledFire? g tag s = none) :
    exec (.gateExaminationAfterPlacing tag) s = .next s := by
  show execGateExaminationAfterPlacing tag s = _
  simp only [execGateExaminationAfterPlacing, none_]

theorem exec_gateExaminationAfterPlacing_of_some {tag : Tag} {f : Fire} (found : scheduledFire? g tag s = some f)
    (first : g = .rework → scheduledFire? .reject tag s = none) :
    exec (.gateExaminationAfterPlacing tag) s = .next (examineHead (examinePlaced g f s)) := by
  show execGateExaminationAfterPlacing tag s = _
  cases g with
  | reject => simp only [execGateExaminationAfterPlacing, found]
  | rework => simp only [execGateExaminationAfterPlacing, first rfl, found]

theorem examinePlaced_of_before {f : Fire} (before : ¬ reached s.pos.position f.start) : examinePlaced g f s = s :=
  if_neg fun h => before (positionReached_iff.mp h)

theorem examinePlaced_of_late {f : Fire} (start : reached s.pos.position f.start) (stop : reached s.pos.position f.stop) :
    examinePlaced g f s = missFire g f.tag s := by
  rw [examinePlaced, Fire.startReached, Fire.stopReached, if_pos (positionReached_iff.mpr start),
    if_pos (positionReached_iff.mpr stop)]

theorem examinePlaced_of_due {f : Fire} (start : reached s.pos.position f.start) (stop : ¬ reached s.pos.position f.stop) :
    examinePlaced g f s = startFire g f.tag s := by
  rw [examinePlaced, Fire.startReached, Fire.stopReached, if_pos (positionReached_iff.mpr start),
    if_neg fun h => stop (positionReached_iff.mp h)]

theorem missFire_eq (g : Gate) (tag : Tag) (s : State) : missFire g tag s = noted 6 10 (withGate g
    { gateOf g s with fires := (gateOf g s).fires.filter fun f => f.tag != tag }
    { s with queue.items := outcomeOn .passed .missed [tag] s.queue.items }) := by
  simp only [missFire, bump_raise_eq, setGateOutcome, updGate_eq_withGate, updItem_withGate, outcomeOn, List.mem_singleton]
  rfl

theorem outcomeOn_eq (p : Phase) (o : GateOutcome) (tag : Tag) (l : List Item) :
    outcomeOn p o [tag] l = l.map fun j => if j.tag = tag then { j with phase := p, gateOutcome := o } else j := by
  simp only [outcomeOn, List.mem_singleton]

/-- A gate and one record's outcome written leave the head where it stays. -/
theorem headStays_withGate {tag : Tag} {p : Phase} {o : GateOutcome} (x : GateState) (stays : headStays s) :
    headStays (withGate g x { s with queue.items := outcomeOn p o [tag] s.queue.items }) := by
  refine headStays_of_updItem (tag := tag) (f := fun j => { j with phase := p, gateOutcome := o }) (fun _ => rfl) ?_ ?_ ?_ stays
  · rw [outcomeOn_eq]
    cases g <;> rfl
  · cases g <;> rfl
  · cases g <;> rfl

theorem headStays_withGate_self (x : GateState) (stays : headStays s) : headStays (withGate g x s) := by
  cases g <;> exact stays

end Sys2Proof.Machine

open Sys2Proof Sys2Proof.Machine Sys2Proof.Safety

/-- Settles O48: a placed fire, the starts of an examination, then its ends. -/
theorem gateExaminations : Obligations.GateExaminations := by
  unfold Obligations.GateExaminations
  refine ⟨fun tag s stays => ⟨?nothing, ?placed⟩, fun g s apart => ⟨?held, ?started⟩, ?ends⟩
  case nothing => exact fun none_ => exec_gateExaminationAfterPlacing_of_none fun g => scheduledFire?_eq_none_iff.mpr (none_ g)
  case placed =>
    intro g f found first
    have step := exec_gateExaminationAfterPlacing_of_some (s := s) found fun own => scheduledFire?_eq_none_iff.mpr (first own)
    have own : f.tag = tag := by
      have hit := List.find?_some found
      rw [Bool.and_eq_true, beq_iff_eq] at hit
      exact hit.1
    refine ⟨fun before => ?_, fun start stop => ?_, fun start stop => ⟨fun idle => ?_, fun on => ?_, fun e recovery => ?_⟩⟩
    · rw [step, examinePlaced_of_before before, examineHead_of_headStays _ stays]
    · rw [step, examinePlaced_of_late start stop, own, missFire_eq, examineHead_of_headStays, outcomeOn_eq]
      exact headStays_withGate _ stays
    · rw [step, examinePlaced_of_due start stop, own, startFire_of_idle idle,
        examineHead_of_headStays _ (headStays_withGate _ stays), outcomeOn_eq]
      rfl
    · rw [step, examinePlaced_of_due start stop, own, startFire_of_on on,
        examineHead_of_headStays _ (headStays_withGate _ stays), outcomeOn_eq]
      rfl
    · rw [step, examinePlaced_of_due start stop, own, startFire_of_recovery recovery,
        examineHead_of_headStays _ (headStays_withGate_self _ stays)]
      rfl
  case held =>
    intro e recovery
    have held := examineGate_of_recovery apart recovery
    rwa [startsNow_eq] at held
  case started =>
    intro output some_
    have started := examineGate_of_off_recovery apart output (by rwa [startsNow_eq])
    rwa [startsNow_eq] at started
  case ends =>
    intro g s none_ ends left gap t
    have unstarted : startFires g s = s := startFires_of_none fun f member =>
      Bool.eq_false_iff.mpr fun starts => none_ f member (startsNow_iff.mp starts)
    have after : t = endFires g s := by
      show endFires g (startFires g s) = _
      rw [unstarted]
    rw [endFires_eq, endsNow_eq] at after
    have off : outputOff g s = if gap = 0 then .idle else .recovery (s.pos.time + BitVec.ofNat 32 gap) := by
      cases g <;> rfl
    rw [after]
    refine ⟨?_, ?_, fun h other => ?_, ?_, ?_⟩
    · cases g <;> rfl
    · rw [gateOf_withGate_same, off]
    · rw [gateOf_withGate_other _ _ other]
      cases h <;> rfl
    · rw [withGate_lamp]
    · rw [withGate_items]
end

section
/-! The recovery expiry and the halt input: O49, O50 (9.4, 9.5). -/

namespace Sys2Proof.Machine

open Sys2Proof.Safety

variable {s : State} {g : Gate}

/-! ## Flags and counts of the line port alone -/

/-- An event raised and a count incremented, on the line port. -/
def portNoted (bit : Nat) (k : Fin 14) (p : LinePort) : LinePort :=
  { p with flags := p.flags ||| (1#16 <<< bit), counts := p.counts.set k.val (oneMore p.counts[k]) k.isLt }

theorem noted_eq (bit : Nat) (k : Fin 14) (s : State) : noted bit k s = { s with port := portNoted bit k s.port } :=
  rfl

/-- The first of two events at the elements that meet a test, the second at the others, each with its count. -/
def portNotedBy {α : Type} (first second : Nat × Fin 14) (test : α → Bool) (l : List α) (p : LinePort) : LinePort :=
  l.foldl (fun p a => if test a then portNoted first.1 first.2 p else portNoted second.1 second.2 p) p

theorem portNotedBy_cons {α : Type} (first second : Nat × Fin 14) (test : α → Bool) (a : α) (l : List α) (p : LinePort) :
    portNotedBy first second test (a :: l) p = portNotedBy first second test l
      (if test a then portNoted first.1 first.2 p else portNoted second.1 second.2 p) :=
  rfl

/-- What such a run of events leaves: the other fields, the two counts, the other counts and the flags (R183, R185). -/
theorem portNotedBy_spec {α : Type} {i j : Nat} {m n : Fin 14} (apart : m ≠ n) (test : α → Bool) (l : List α) (p : LinePort) :
    let q := portNotedBy (i, m) (j, n) test l p
    q = { p with flags := q.flags, counts := q.counts }
      ∧ q.counts[m].toNat = min 65535 (p.counts[m].toNat + l.countP test)
      ∧ q.counts[n].toNat = min 65535 (p.counts[n].toNat + l.countP fun a => !test a)
      ∧ (∀ k : Fin 14, k ≠ m → k ≠ n → q.counts[k] = p.counts[k])
      ∧ q.flags = p.flags ||| (if l.any test then 1#16 <<< i else 0) ||| (if l.any fun a => !test a then 1#16 <<< j else 0) := by
  induction l generalizing p with
  | nil =>
    have first := p.counts[m].isLt
    have second := p.counts[n].isLt
    refine ⟨rfl, ?_, ?_, fun _ _ _ => rfl, ?_⟩
    · show p.counts[m].toNat = min 65535 (p.counts[m].toNat + 0)
      omega
    · show p.counts[n].toNat = min 65535 (p.counts[n].toNat + 0)
      omega
    · show p.flags = p.flags ||| 0#16 ||| 0#16
      simp
  | cons a l ih =>
    intro q
    have other {x y : Fin 14} (v : Word16) (differ : x ≠ y) : (p.counts.set x.val v x.isLt)[y] = p.counts[y] :=
      Vector.getElem_set_ne _ _ fun same => differ (Fin.ext same)
    have own {x : Fin 14} (v : Word16) : (p.counts.set x.val v x.isLt)[x] = v := Vector.getElem_set_self _
    cases hit : test a with
    | true =>
      obtain ⟨rest, first, second, others, flags⟩ := ih (portNoted i m p)
      have step : q = portNotedBy (i, m) (j, n) test l (portNoted i m p) := by
        simp only [q, portNotedBy_cons, hit, if_true]
      rw [← step] at rest first second others flags
      simp only [portNoted] at rest first second others flags
      rw [own, oneMore_toNat] at first
      rw [other _ apart] at second
      refine ⟨rest, ?_, ?_, fun k notM notN => (others k notM notN).trans (other _ (Ne.symm notM)), ?_⟩
      · rw [first, List.countP_cons, hit]
        simp only [if_true]
        omega
      · rw [second, List.countP_cons, hit]
        rfl
      · rw [flags, List.any_cons, List.any_cons, hit]
        cases l.any test <;> simp [BitVec.or_assoc]
    | false =>
      obtain ⟨rest, first, second, others, flags⟩ := ih (portNoted j n p)
      have step : q = portNotedBy (i, m) (j, n) test l (portNoted j n p) := by
        simp [q, portNotedBy_cons, hit]
      rw [← step] at rest first second others flags
      simp only [portNoted] at rest first second others flags
      rw [own, oneMore_toNat] at second
      rw [other _ (Ne.symm apart)] at first
      refine ⟨rest, ?_, ?_, fun k notM notN => (others k notM notN).trans (other _ (Ne.symm notN)), ?_⟩
      · rw [first, List.countP_cons, hit]
        rfl
      · rw [second, List.countP_cons, hit]
        simp only [Bool.not_false, if_true]
        omega
      · rw [flags, List.any_cons, List.any_cons, hit, BitVec.or_assoc, BitVec.or_assoc, BitVec.or_assoc,
          BitVec.or_comm (1#16 <<< j),
          BitVec.or_assoc]
        cases l.any fun a => !test a <;> simp

/-! ## HELD fires at the recovery expiry (R151) -/

/-- A HELD fire whose end lies ahead of a position: it starts late. -/
def startsLate (position : Word32) (f : Fire) : Bool :=
  decide (f.status = .held ∧ (position - f.stop).toInt < 0)

/-- A HELD fire whose end a position has reached: it is missed. -/
def isMissed (position : Word32) (f : Fire) : Bool :=
  decide (f.status = .held ∧ 0 ≤ (position - f.stop).toInt)

theorem isMissed_of_held {position : Word32} {f : Fire} (held : f.status = .held) :
    isMissed position f = !startsLate position f := by
  rw [Bool.eq_iff_iff, Bool.not_eq_true', isMissed, startsLate, decide_eq_true_iff, decide_eq_false_iff_not]
  simp only [held, true_and, not_lt]

/-- The fires of a gate once some HELD ones have started late and the others of these are missed. -/
def firesReleased (late : Fire → Bool) (l fires : List Fire) : List Fire :=
  fires.filterMap fun e =>
    if e.tag ∈ (l.filter fun f => !late f).map Fire.tag then none
    else some (if e.tag ∈ (l.filter late).map Fire.tag then { e with status := .on } else e)

/-- The records once some HELD fires have started late and the others of these are missed. -/
def itemsReleased (late : Fire → Bool) (l : List Fire) (items : List Item) : List Item :=
  items.map fun j =>
    if j.tag ∈ (l.filter late).map Fire.tag then { j with phase := .firing, gateOutcome := .lateFire }
    else if j.tag ∈ (l.filter fun f => !late f).map Fire.tag then { j with phase := .passed, gateOutcome := .missed }
    else j

theorem not_mem_tags_filter {tag : Tag} {l : List Fire} (apart : tag ∉ l.map Fire.tag) (p : Fire → Bool) :
    tag ∉ (l.filter p).map Fire.tag :=
  fun listed => apart ((List.filter_sublist.map Fire.tag).subset listed)

theorem firesReleased_cons_of_late {late : Fire → Bool} {f : Fire} {l : List Fire} (hit : late f = true)
    (apart : f.tag ∉ l.map Fire.tag) (fires : List Fire) :
    firesReleased late l (fires.map fun e => if e.tag = f.tag then { e with status := .on } else e)
      = firesReleased late (f :: l) fires := by
  have away (p : Fire → Bool) : f.tag ∉ (l.filter p).map Fire.tag := not_mem_tags_filter apart p
  rw [firesReleased, firesReleased, List.filterMap_map]
  refine List.filterMap_congr fun e _ => ?_
  by_cases own : e.tag = f.tag
  · simp [hit, own, away, -List.mem_map]
  · simp [hit, own, -List.mem_map]

theorem firesReleased_cons_of_missed {late : Fire → Bool} {f : Fire} {l : List Fire} (miss : late f = false) (fires : List Fire) :
    firesReleased late l (fires.filter fun e => e.tag != f.tag) = firesReleased late (f :: l) fires := by
  rw [firesReleased, firesReleased, List.filterMap_filter]
  refine List.filterMap_congr fun e _ => ?_
  by_cases own : e.tag = f.tag <;> simp [miss, own, -List.mem_map]

theorem itemsReleased_cons_of_late {late : Fire → Bool} {f : Fire} {l : List Fire} (hit : late f = true)
    (apart : f.tag ∉ l.map Fire.tag) (items : List Item) :
    itemsReleased late l (outcomeOn .firing .lateFire [f.tag] items) = itemsReleased late (f :: l) items := by
  have away (p : Fire → Bool) : f.tag ∉ (l.filter p).map Fire.tag := not_mem_tags_filter apart p
  rw [itemsReleased, itemsReleased, outcomeOn, List.map_map]
  refine List.map_congr_left fun j _ => ?_
  by_cases own : j.tag = f.tag
  · simp [hit, own, away, -List.mem_map]
  · simp [hit, own, -List.mem_map]

theorem itemsReleased_cons_of_missed {late : Fire → Bool} {f : Fire} {l : List Fire} (miss : late f = false)
    (apart : f.tag ∉ l.map Fire.tag) (items : List Item) :
    itemsReleased late l (outcomeOn .passed .missed [f.tag] items) = itemsReleased late (f :: l) items := by
  have away (p : Fire → Bool) : f.tag ∉ (l.filter p).map Fire.tag := not_mem_tags_filter apart p
  rw [itemsReleased, itemsReleased, outcomeOn, List.map_map]
  refine List.map_congr_left fun j _ => ?_
  by_cases own : j.tag = f.tag
  · simp [miss, own, away, -List.mem_map]
  · simp [miss, own, -List.mem_map]

/-- The state once a gate's HELD fires are released: output, fires, records, flags and counts. -/
def released (g : Gate) (late : Fire → Bool) (l : List Fire) (s : State) : State :=
  withGate g { output := if l.any late then .on else (gateOf g s).output, fires := firesReleased late l (gateOf g s).fires }
    { s with queue.items := itemsReleased late l s.queue.items, port := portNotedBy (7, 9) (6, 10) late l s.port }

theorem releaseHeld_of_late {f : Fire} (held : f.status = .held) (late : startsLate s.pos.position f = true) :
    releaseHeld g f s = withGate g { (gateOf g s).setStatus f.tag .on with output := .on }
      { s with queue.items := outcomeOn .firing .lateFire [f.tag] s.queue.items, port := portNoted 7 9 s.port } := by
  have ahead : ¬ f.stopReached s = true := fun reached_ => by
    have missed : isMissed s.pos.position f = true := decide_eq_true ⟨held, positionReached_iff.mp reached_⟩
    rw [isMissed_of_held held, late] at missed
    cases missed
  rw [releaseHeld, if_neg ahead, bump_raise_eq, setGateOutcome, updGate_eq_withGate, updItem_withGate, outcomeOn_eq]
  cases g <;> rfl

theorem releaseHeld_of_missed {f : Fire} (held : f.status = .held) (missed : startsLate s.pos.position f = false) :
    releaseHeld g f s = withGate g { gateOf g s with fires := (gateOf g s).fires.filter fun e => e.tag != f.tag }
      { s with queue.items := outcomeOn .passed .missed [f.tag] s.queue.items, port := portNoted 6 10 s.port } := by
  have end_ : f.stopReached s = true := by
    have past : isMissed s.pos.position f = true := by rw [isMissed_of_held held, missed]; rfl
    exact positionReached_iff.mpr (of_decide_eq_true past).2
  rw [releaseHeld, if_pos end_, missFire_eq]
  cases g <;> rfl

theorem released_nil (g : Gate) (late : Fire → Bool) (s : State) : released g late [] s = s := by
  have fires (l : List Fire) : firesReleased late [] l = l := by simp [firesReleased]
  have items (l : List Item) : itemsReleased late [] l = l := by simp [itemsReleased]
  rw [released, fires, items]
  exact withGate_self g s

/-- The HELD fires of a list with their tags apart, released in list order. -/
theorem foldl_releaseHeld {l : List Fire} (held : ∀ f ∈ l, f.status = .held) (apart : (l.map Fire.tag).Nodup) (s : State) :
    l.foldl (fun t f => releaseHeld g f t) s = released g (startsLate s.pos.position) l s := by
  induction l generalizing s with
  | nil => exact (released_nil g _ s).symm
  | cons f l ih =>
    rw [List.map_cons, List.nodup_cons] at apart
    rw [List.foldl_cons, ih (fun e member => held e (List.mem_cons_of_mem _ member)) apart.2]
    have own := held f List.mem_cons_self
    cases late : startsLate s.pos.position f with
    | true =>
      have items := itemsReleased_cons_of_late late apart.1 s.queue.items
      have fires := firesReleased_cons_of_late late apart.1 (gateOf g s).fires
      rw [releaseHeld_of_late own late, released, released, gateOf_withGate_same, ← items, ← fires, portNotedBy_cons,
        List.any_cons, late]
      cases g <;> simp <;> rfl
    | false =>
      have items := itemsReleased_cons_of_missed late apart.1 s.queue.items
      have fires := firesReleased_cons_of_missed (l := l) late (gateOf g s).fires
      rw [releaseHeld_of_missed own late, released, released, gateOf_withGate_same, ← items, ← fires, portNotedBy_cons,
        List.any_cons, late]
      cases g <;> simp <;> rfl

theorem map_identity_itemsReleased (late : Fire → Bool) (l : List Fire) (items : List Item) :
    (itemsReleased late l items).map identity = items.map identity := by
  rw [itemsReleased, List.map_map]
  refine List.map_congr_left fun j _ => ?_
  rw [Function.comp_apply]
  split
  · rfl
  · split <;> rfl

/-- The head stays where position and plans are as they were and the records have the same identities in the same places. -/
theorem headStays_of_identities {t : State} (same : t.queue.items.map identity = s.queue.items.map identity) (pos : t.pos = s.pos)
    (plans : t.plans = s.plans) (stays : headStays s) : headStays t := by
  intro j head
  have found : (s.queue.items.map identity).head? = some (identity j) := by
    rw [← same, List.head?_map, head]
    rfl
  rw [List.head?_map] at found
  obtain ⟨k, first, own⟩ := Option.map_eq_some_iff.mp found
  have bank : k.bank = j.bank := congrArg (fun x => x.2.1) own
  have entry : k.entry = j.entry := congrArg (fun x => x.2.2) own
  have kept := stays k first
  rw [bank, entry] at kept
  rw [pos]
  simpa only [planOf, bankOf, plans] using kept

theorem mem_tags_filter_iff {fires : List Fire} (apart : (fires.map Fire.tag).Nodup) {e : Fire} (member : e ∈ fires)
    (p q : Fire → Bool) :
    e.tag ∈ ((fires.filter p).filter q).map Fire.tag ↔ p e = true ∧ q e = true := by
  constructor
  · intro listed
    obtain ⟨f, inside, same⟩ := List.mem_map.mp listed
    obtain ⟨there, own⟩ := List.mem_filter.mp inside
    obtain ⟨inFires, first⟩ := List.mem_filter.mp there
    rw [← List.inj_on_of_nodup_map apart inFires member same]
    exact ⟨first, own⟩
  · rintro ⟨first, second⟩
    exact List.mem_map.mpr ⟨e, List.mem_filter.mpr ⟨List.mem_filter.mpr ⟨member, first⟩, second⟩, rfl⟩

/-- The HELD fires of a gate. -/
def heldFires (g : Gate) (s : State) : List Fire :=
  (gateOf g s).fires.filter fun f => decide (f.status = .held)

theorem held_of_mem {f : Fire} (member : f ∈ heldFires g s) : f.status = .held :=
  of_decide_eq_true (List.mem_filter.mp member).2

/-- The fires after the release of the HELD ones: the missed leave the list, the late ones are ON. -/
theorem firesReleased_held (apart : ((gateOf g s).fires.map Fire.tag).Nodup) (position : Word32) :
    firesReleased (startsLate position) (heldFires g s) (gateOf g s).fires
      = ((gateOf g s).fires.filter fun f => !isMissed position f).map fun f =>
          if startsLate position f then { f with status := .on } else f := by
  have whole : (((gateOf g s).fires.filter fun f => !isMissed position f).map fun f =>
      if startsLate position f then ({ f with status := .on } : Fire) else f)
        = (gateOf g s).fires.filterMap fun f => if (!isMissed position f) = true then
            some (if startsLate position f then { f with status := .on } else f) else none := by
    rw [← List.filterMap_eq_map, List.filterMap_filter]
    rfl
  rw [whole, firesReleased]
  refine List.filterMap_congr fun f member => ?_
  rw [heldFires]
  simp only [mem_tags_filter_iff apart member, decide_eq_true_iff]
  by_cases held : f.status = .held
  · rw [isMissed_of_held held]
    cases startsLate position f <;> simp [held]
  · simp [held, isMissed, startsLate]

theorem leaveRecovery_eq (apart : ((gateOf g s).fires.map Fire.tag).Nodup) :
    leaveRecovery g s = released g (startsLate s.pos.position) (heldFires g s) (withGate g { gateOf g s with output := .idle } s) := by
  have list : ((gateOf g s).fires.filter fun f => f.status == .held) = heldFires g s :=
    List.filter_congr fun f _ => by rw [Bool.eq_iff_iff, beq_iff_eq, decide_eq_true_iff]
  have own : ((heldFires g s).map Fire.tag).Nodup := apart.sublist (List.filter_sublist.map _)
  rw [leaveRecovery, list, updGate_eq_withGate, foldl_releaseHeld (fun f member => held_of_mem member) own]
  cases g <;> rfl

/-- The gate's release spelled out on the state before it. -/
theorem released_eq (apart : ((gateOf g s).fires.map Fire.tag).Nodup) : leaveRecovery g s =
    withGate g { output := if (heldFires g s).any (startsLate s.pos.position) then .on else .idle
                 fires := firesReleased (startsLate s.pos.position) (heldFires g s) (gateOf g s).fires }
      { s with queue.items := itemsReleased (startsLate s.pos.position) (heldFires g s) s.queue.items
               port := portNotedBy (7, 9) (6, 10) (startsLate s.pos.position) (heldFires g s) s.port } := by
  rw [leaveRecovery_eq apart, released, gateOf_withGate_same]
  cases g <;> rfl

theorem any_congr_of_mem {α : Type} {l : List α} {p q : α → Bool} (same : ∀ a ∈ l, p a = q a) : l.any p = l.any q := by
  rw [Bool.eq_iff_iff, List.any_eq_true, List.any_eq_true]
  exact exists_congr fun a => and_congr_right fun member => by rw [same a member]

theorem exec_recoveryExpiry_of_due (due : recoveryDue g s = true) :
    exec (.recoveryExpiry g) s = .next (examineHead (leaveRecovery g s)) := by
  show execRecoveryExpiry g s = _
  rw [execRecoveryExpiry, if_pos due]

theorem exec_recoveryExpiry_of_not_due (early : ¬ recoveryDue g s = true) : exec (.recoveryExpiry g) s = .next s := by
  show execRecoveryExpiry g s = _
  rw [execRecoveryExpiry, if_neg early]

theorem filter_missed_held (position : Word32) : (heldFires g s).filter (isMissed position)
    = (heldFires g s).filter fun f => !startsLate position f :=
  List.filter_congr fun _ member => isMissed_of_held (held_of_mem member)

/-! ## The halt input (R34, R153) -/

/-- The fires that a rising edge of the halt input cuts under CUT. -/
def cutFires (g : Gate) (s : State) : List Fire :=
  if (gateOf g s).output = .on then (gateOf g s).fires.filter fun f => decide (f.status = .on) else []

/-- The gate that a rising edge of the halt input leaves under CUT. -/
def gateCut (x : GateState) : GateState :=
  if x.output = .on then { output := .idle, fires := x.fires.filter fun f => decide (f.status ≠ .on) } else x

theorem cutItem_eq (tag : Tag) (s : State) :
    cutItem tag s = { s with queue.items := outcomeOn .passed .cut [tag] s.queue.items, port := portNoted 5 11 s.port } := by
  rw [cutItem, bump_raise_eq, outcomeOn_eq]
  rfl

/-- The count and the flag of a run of cuts. -/
def portCuts (l : List Fire) (p : LinePort) : LinePort :=
  portNotedBy (5, 11) (6, 10) (fun _ => true) l p

theorem foldl_cutItem (l : List Fire) (s : State) : l.foldl (fun t f => cutItem f.tag t) s =
    { s with queue.items := outcomeOn .passed .cut (l.map Fire.tag) s.queue.items, port := portCuts l s.port } := by
  induction l generalizing s with
  | nil =>
    have same : outcomeOn .passed .cut [] s.queue.items = s.queue.items := by simp [outcomeOn]
    rw [List.map_nil, same]
    rfl
  | cons f l ih =>
    rw [List.foldl_cons, ih, cutItem_eq, List.map_cons, ← outcomeOn_outcomeOn .passed .cut f.tag (l.map Fire.tag)]
    rfl

theorem cutGate_eq (g : Gate) (s : State) : cutGate g s = withGate g (gateCut (gateOf g s))
    { s with queue.items := outcomeOn .passed .cut ((cutFires g s).map Fire.tag) s.queue.items
             port := portCuts (cutFires g s) s.port } := by
  have none_ : outcomeOn .passed .cut [] s.queue.items = s.queue.items := by simp [outcomeOn]
  have onFires : ((gateOf g s).fires.filter fun f => f.status == .on)
    = (gateOf g s).fires.filter fun f => decide (f.status = .on) :=
    List.filter_congr fun f _ => by rw [Bool.eq_iff_iff, beq_iff_eq, decide_eq_true_iff]
  have left : ((gateOf g s).fires.filter fun f => f.status != .on) = (gateOf g s).fires.filter fun f => decide (f.status ≠ .on) :=
    List.filter_congr fun f _ => by rw [Bool.eq_iff_iff, bne_iff_ne, decide_eq_true_iff]
  cases output : (gateOf g s).output with
  | on =>
    simp only [cutGate, output, foldl_cutItem, updGate_eq_withGate, gateCut, cutFires, onFires, left, if_true]
    cases g <;> rfl
  | idle =>
    simp only [cutGate, output, gateCut, cutFires, reduceCtorEq, if_false, List.map_nil, none_]
    exact (withGate_self g s).symm
  | recovery e =>
    simp only [cutGate, output, gateCut, cutFires, reduceCtorEq, if_false, List.map_nil, none_]
    exact (withGate_self g s).symm

/-- Both gates at a rising edge of the halt input under CUT. -/
theorem cutGates_eq (s : State) : cutGate .rework (cutGate .reject s) = { s with
    gates.reject := gateCut s.gates.reject
    gates.rework := gateCut s.gates.rework
    queue.items := outcomeOn .passed .cut ((cutFires .rework s).map Fire.tag)
      (outcomeOn .passed .cut ((cutFires .reject s).map Fire.tag) s.queue.items)
    port := portCuts (cutFires .rework s) (portCuts (cutFires .reject s) s.port) } := by
  rw [cutGate_eq, cutGate_eq]
  rfl

theorem portCuts_counts (l : List Fire) (p : LinePort) :
    (portCuts l p).counts[(11 : Fin 14)].toNat = min 65535 (p.counts[(11 : Fin 14)].toNat + l.length) := by
  obtain ⟨-, count, -⟩ := portNotedBy_spec (i := 5) (j := 6) (m := 11) (n := 10) (by decide) (fun _ => true) l p
  rwa [List.countP_true] at count

theorem portCuts_flags (l : List Fire) (p : LinePort) :
    (portCuts l p).flags = p.flags ||| (if l = [] then 0#16 else 1#16 <<< 5) := by
  obtain ⟨-, -, -, -, flags⟩ := portNotedBy_spec (i := 5) (j := 6) (m := 11) (n := 10) (by decide) (fun _ => true) l p
  refine flags.trans ?_
  cases l <;> simp

theorem mem_outcomeOn {p : Phase} {o : GateOutcome} {tags : List Tag} {l : List Item} {j : Item}
    (member : j ∈ outcomeOn p o tags l) :
    (j.tag ∈ tags ∧ j.phase = p ∧ j.gateOutcome = o) ∨ (j.tag ∉ tags ∧ j ∈ l) := by
  obtain ⟨k, inside, rfl⟩ := List.mem_map.mp member
  by_cases own : k.tag ∈ tags
  · rw [if_pos own]
    exact .inl ⟨own, rfl, rfl⟩
  · rw [if_neg own]
    exact .inr ⟨own, inside⟩

/-- GATE_CUT (bit 5) after both gates' cuts, behind HALT_INPUT (bit 0). -/
theorem cut_flag_iff (v : Word16) (l m : List Fire) :
    (v ||| (1#16 <<< 0) ||| (if l = [] then 0#16 else 1#16 <<< 5) ||| (if m = [] then 0#16 else 1#16 <<< 5)).getLsbD 5 = true
      ↔ v.getLsbD 5 = true ∨ l ≠ [] ∨ m ≠ [] := by
  by_cases first : l = [] <;> by_cases second : m = [] <;> simp [first, second]

/-- The records left by examinations of the head are records that were there. -/
theorem mem_of_mem_examineHead {j : Item} (member : j ∈ (examineHead s).queue.items) : j ∈ s.queue.items := by
  rw [examineHead] at member
  generalize s.queue.items.length = fuel at member
  induction fuel generalizing s with
  | zero => exact member
  | succ fuel ih =>
    rw [examineHeads] at member
    split at member
    next => exact member
    next i rest items =>
      split at member
      · have inside := ih member
        rw [retireHead_items] at inside
        rw [items]
        exact List.mem_cons_of_mem _ inside
      · exact member

theorem examineHead_flag {bit : Nat} (other : bit ≠ 2) : (examineHead s).port.flags.getLsbD bit = s.port.flags.getLsbD bit := by
  refine examineHead_keeps s (fun t => t.port.flags.getLsbD bit) fun i rest t => ?_
  rw [retireHead_eq]
  dsimp only
  split
  · rfl
  · have away : (1#16 <<< 2).getLsbD bit = false := by
      rw [BitVec.getLsbD_shiftLeft, BitVec.getLsbD_one]
      simp only [Bool.and_eq_false_iff, decide_eq_false_iff_not, Bool.not_eq_false', decide_eq_true_iff]
      omega
    rw [noted, BitVec.getLsbD_or, away, Bool.or_false]

theorem examineHead_count {k : Fin 14} (other : k ≠ 12) : (examineHead s).port.counts[k] = s.port.counts[k] := by
  refine examineHead_keeps s (fun t => t.port.counts[k]) fun i rest t => ?_
  rw [retireHead_eq]
  dsimp only
  split
  · rfl
  · exact Vector.getElem_set_ne (by decide) k.isLt fun same => other (Fin.ext same.symm)

end Sys2Proof.Machine

open Sys2Proof Sys2Proof.Machine Sys2Proof.Safety

/-- Settles O49: the HELD fires of a gate are released in list order. -/
theorem recoveryExpiryReleasesTheHeld : Obligations.RecoveryExpiryReleasesTheHeld := by
  unfold Obligations.RecoveryExpiryReleasesTheHeld
  refine fun g s => ⟨?early, ?due⟩
  case early =>
    refine fun early => exec_recoveryExpiry_of_not_due fun due => ?_
    obtain ⟨x, output, past⟩ := recoveryDue_iff.mp due
    exact early x output past
  case due =>
    intro x output past apart inside held late missed
    have counted := portNotedBy_spec (i := 7) (j := 6) (m := 9) (n := 10) (by decide) (startsLate s.pos.position) held s.port
    obtain ⟨port, lateCount, missedCount, counts, flags⟩ := counted
    have stays : headStays (leaveRecovery g s) := by
      have before : headStays s := fun j head => inside j (List.mem_of_head? head)
      rw [released_eq apart]
      refine headStays_of_identities ?_ ?_ ?_ before
      · rw [withGate_items]
        exact map_identity_itemsReleased _ _ _
      · cases g <;> rfl
      · cases g <;> rfl
    have missedTest : ∀ f ∈ held, missed f = !startsLate s.pos.position f := fun f member => isMissed_of_held (held_of_mem member)
    refine ⟨leaveRecovery g s, ?_, ?_, ?_, fun h other => ?_, ?_, ?_, ?_, fun k notLate notMissed => ?_, ?_, ?_⟩
    · rw [exec_recoveryExpiry_of_due (recoveryDue_iff.mpr ⟨x, output, past⟩), examineHead_of_headStays _ stays]
    all_goals rw [released_eq apart]
    · refine (congrArg (fun p : LinePort => withGate g _ { s with queue.items := _, port := p }) port).trans ?_
      cases g <;> rfl
    · rw [gateOf_withGate_same, firesReleased_held apart]
      rfl
    · rw [gateOf_withGate_other _ _ other]
      cases h <;> rfl
    · rw [withGate_lamp]
    all_goals rw [withGate_eq]
    · exact lateCount
    · rw [List.countP_congr fun f member => by rw [missedTest f member]]
      exact missedCount
    · exact counts k notLate notMissed
    · have any : held.any missed = held.any fun f => !startsLate s.pos.position f :=
        any_congr_of_mem missedTest
      rw [any]
      exact flags
    · refine List.map_congr_left fun j _ => ?_
      have filter : held.filter missed = held.filter fun f => !startsLate s.pos.position f := List.filter_congr missedTest
      simp only [any_tag_eq_true_iff, filter]
      rfl

/-- Settles O50: the halt input under CUT and HOLD. -/
theorem haltInputCutsTheGates : Obligations.HaltInputCutsTheGates := by
  unfold Obligations.HaltInputCutsTheGates
  refine fun s => ⟨rfl, fun high => ?high, fun low hold => ?hold, fun low mode => ?cut⟩
  case high =>
    show execHaltInputRisingEdge s = _
    rw [execHaltInputRisingEdge, if_pos high]
  case hold =>
    show execHaltInputRisingEdge s = _
    rw [execHaltInputRisingEdge, if_neg (by rw [low]; decide), raise_eq]
    simp only [gatesAtHalt, hold]
    rfl
  case cut =>
    intro cut
    have step : exec .haltInputRisingEdge s
        = .next (examineHead (cutGate .rework (cutGate .reject (raise .haltInput { s with pos.halt := true })))) := by
      show execHaltInputRisingEdge s = _
      rw [execHaltInputRisingEdge, if_neg (by rw [low]; decide)]
      simp only [gatesAtHalt, raise, mode]
    rw [raise_eq, cutGates_eq] at step
    refine ⟨_, step, ?_, ?_, fun g on => ?_, fun g off => ?_, fun g f member j inside own => ?_, ?_, ?_⟩
    · rw [examineHead_pos]
    · rw [examineHead_flag (by decide), portCuts_flags, portCuts_flags]
      split_ifs <;> simp [Event.place]
    · cases g <;> simp only [gateOf, examineHead_gates, gateCut] <;> exact if_pos on
    · cases g <;> simp only [gateOf, examineHead_gates, gateCut] <;> exact if_neg off
    · replace inside := mem_of_mem_examineHead inside
      rcases mem_outcomeOn inside with ⟨-, outcome⟩ | ⟨away, inside⟩
      · exact outcome
      rcases mem_outcomeOn inside with ⟨-, outcome⟩ | ⟨also, -⟩
      · exact outcome
      have listed : j.tag ∈ (cut g).map Fire.tag := own ▸ List.mem_map_of_mem member
      cases g with
      | reject => exact absurd listed also
      | rework => exact absurd listed away
    · rw [examineHead_count (by decide), portCuts_counts, portCuts_counts]
      show min 65535 (min 65535 (s.port.counts[(11 : Fin 14)].toNat + (cutFires .reject s).length) + (cutFires .rework s).length)
        = min 65535 (s.port.counts[(11 : Fin 14)].toNat + (cutFires .reject s).length + (cutFires .rework s).length)
      omega
    · rw [examineHead_flag (by decide), portCuts_flags, portCuts_flags]
      exact cut_flag_iff s.port.flags (cutFires .reject s) (cutFires .rework s)
end

section
/-! The bytes of copies and regions: O41 (8.4, 8.7). -/

namespace Sys2Proof.Machine

open Sys2Proof.Safety

variable {r : FrameRecord} {m : List Host.Cell}

/-! ## The average of a block (R129) -/

theorem sum_map_range_bounds {n lo hi : Nat} {f : Nat → Nat} (bounds : ∀ i < n, lo ≤ f i ∧ f i ≤ hi) :
    n * lo ≤ ((List.range n).map f).sum ∧ ((List.range n).map f).sum ≤ n * hi := by
  induction n with
  | zero => simp
  | succ n ih =>
    obtain ⟨low, high⟩ := ih fun i below => bounds i (Nat.lt_succ_of_lt below)
    obtain ⟨lowLast, highLast⟩ := bounds n (Nat.lt_succ_self n)
    rw [List.range_succ, List.map_append, List.sum_append, List.map_singleton, List.sum_singleton, Nat.succ_mul, Nat.succ_mul]
    exact ⟨Nat.add_le_add low lowLast, Nat.add_le_add high highLast⟩

theorem pixelSum_bounds {x y w h lo hi : Nat}
    (bounds : ∀ i j, i < w → j < h → lo ≤ pixelValue r m (x + i) (y + j) ∧ pixelValue r m (x + i) (y + j) ≤ hi) :
    w * h * lo ≤ pixelSum r m x y w h ∧ pixelSum r m x y w h ≤ w * h * hi := by
  obtain ⟨low, high⟩ := sum_map_range_bounds (n := h) (lo := w * lo) (hi := w * hi) fun j row =>
    sum_map_range_bounds fun i column => bounds i j column row
  have swap (v : Nat) : w * h * v = h * (w * v) := by ring
  rw [swap, swap]
  exact ⟨low, high⟩

/-- A rounded average lies between bounds of what is averaged. -/
theorem average_bounds {sum n lo hi : Nat} (some_ : 0 < n) (low : n * lo ≤ sum) (high : sum ≤ n * hi) :
    lo ≤ average sum n ∧ average sum n ≤ hi := by
  rw [average]
  constructor
  · rw [Nat.le_div_iff_mul_le some_, Nat.mul_comm]
    exact low.trans (Nat.le_add_right _ _)
  · have half : n / 2 < n := Nat.div_lt_self some_ (by decide)
    rw [← Nat.lt_succ_iff, Nat.div_lt_iff_lt_mul some_, Nat.succ_mul, Nat.mul_comm]
    exact Nat.add_lt_add_of_le_of_lt high half

theorem blockPixel_bounds {x y w h lo hi : Nat} (wide : 0 < w) (high : 0 < h)
    (bounds : ∀ i j, i < w → j < h → lo ≤ pixelValue r m (x + i) (y + j) ∧ pixelValue r m (x + i) (y + j) ≤ hi) :
    lo ≤ blockPixel r m x y w h ∧ blockPixel r m x y w h ≤ hi :=
  average_bounds (Nat.mul_pos wide high) (pixelSum_bounds bounds).1 (pixelSum_bounds bounds).2

/-! ## Stored bytes (R107, R130) -/

/-- The byte of a frame's blocks at a place, 0 where there is no block. -/
def blockByte (r : FrameRecord) (m : List Host.Cell) (i : Nat) : Byte :=
  ((r.blocks[i / 65536]?).map fun b => Memory.read m (65536 * b.val + i % 65536)).getD 0

theorem storedByte_eq (r : FrameRecord) (m : List Host.Cell) (i : Nat) :
    storedByte r m i = if i < r.payload then blockByte r m i else 0 := by
  rw [storedByte, blockByte, FrameRecord.byteAddress, Config.blockSize]
  cases r.blocks[i / 65536]? <;> rfl

/-! ## Pixels (12.1) -/

/-- The values that a pixel of a depth can have. -/
def pixelRange (depth : Nat) : Nat :=
  if depth = 12 then 4096 else 256

theorem pixelRange_pos (depth : Nat) : 0 < pixelRange depth := by
  rw [pixelRange]
  split <;> decide

theorem outsidePixel_lt (r : FrameRecord) (column row : Nat) : outsidePixel r column row < pixelRange r.depth :=
  Nat.mod_lt _ (pixelRange_pos _)

theorem pixelValue_lt (r : FrameRecord) (m : List Host.Cell) (column row : Nat) :
    pixelValue r m column row < pixelRange r.depth := by
  have byte (i : Nat) : (storedByte r m i).toNat < 256 := (storedByte r m i).isLt
  by_cases inside : r.covers column row = true
  · by_cases deep : r.depth = 12
    · simp only [pixelValue, inside, pixelRange, deep, if_true, Bool.not_true, Bool.false_eq_true, if_false]
      split
      · have := byte (2 * (row * r.width + column) + 1)
        omega
      · decide
    · simp only [pixelValue, inside, pixelRange, deep, Bool.not_true, Bool.false_eq_true, if_false]
      exact byte _
  · rw [pixelValue, if_pos (by simpa using inside)]
    exact outsidePixel_lt r column row

theorem blockPixel_lt {x y w h : Nat} (wide : 0 < w) (high : 0 < h) : blockPixel r m x y w h < pixelRange r.depth := by
  have bound := (blockPixel_bounds (r := r) (m := m) (x := x) (y := y) (lo := 0) (hi := pixelRange r.depth - 1) wide high
    fun i j _ _ => ⟨Nat.zero_le _, Nat.le_sub_one_of_lt (pixelValue_lt r m (x + i) (y + j))⟩).2
  exact Nat.lt_of_le_sub_one (pixelRange_pos _) bound

/-- A run of bytes carries a value as pixel `k`: one byte at depth 8, two at depth 12. -/
def SendsPixel (r : FrameRecord) (byte : Nat → Byte) (k value : Nat) : Prop :=
  if r.depth = 12 then 256 * (byte (2 * k)).toNat + (byte (2 * k + 1)).toNat = value else (byte k).toNat = value

/-- A run whose bytes are those of a value carries it. -/
theorem sendsPixel_of_bytes {byte : Nat → Byte} {k value : Nat} (depth : r.depth = 8 ∨ r.depth
    = 12) (range : value < pixelRange r.depth)
    (bytes : ∀ i, i / bytesPerPixel r.depth = k → byte i = pixelByteOf r.depth value (i % bytesPerPixel r.depth)) :
    SendsPixel r byte k value := by
  rcases depth with shallow | deep
  · rw [shallow] at range bytes
    have own := bytes k (Nat.div_one k)
    simp only [pixelRange, pixelByteOf, Nat.reduceEqDiff, if_false] at range own
    rw [SendsPixel, if_neg (by rw [shallow]; decide), own, BitVec.toNat_ofNat, Nat.mod_eq_of_lt range]
  · rw [deep] at range bytes
    have two : bytesPerPixel 12 = 2 := rfl
    rw [two] at bytes
    have upper := bytes (2 * k) (by omega)
    have lower := bytes (2 * k + 1) (by omega)
    rw [Nat.mul_mod_right] at upper
    rw [show (2 * k + 1) % 2 = 1 by omega] at lower
    simp only [pixelRange, pixelByteOf, if_true] at range upper lower
    rw [SendsPixel, if_pos deep, upper, lower]
    simp only [one_ne_zero, if_false, BitVec.toNat_ofNat]
    omega

/-! ## Copies and regions -/

theorem block_inside {k n f : Nat} (pos : 0 < f) (below : k < ceilDiv n f) : 0 < min f (n - f * k) := by
  have inside : f * k < n := by
    rw [ceilDiv, Nat.lt_div_iff_mul_lt pos] at below
    rw [Nat.mul_comm]
    omega
  omega

theorem sendsPixel_copy {f k : Nat} (depth : r.depth = 8 ∨ r.depth = 12) (factor : f = 2 ∨ f = 4)
    (below : k < copyWidth r f * copyHeight r f) :
    SendsPixel r (copyByte r m f) k (blockPixel r m (f * (k % copyWidth r f)) (f * (k / copyWidth r f))
      (min f (r.width - f * (k % copyWidth r f))) (min f (r.height - f * (k / copyWidth r f)))) := by
  have pos : 0 < f := by omega
  have wide : 0 < copyWidth r f := Nat.pos_of_mul_pos_right (Nat.zero_lt_of_lt below)
  refine sendsPixel_of_bytes depth ?_ fun i place => ?_
  · refine blockPixel_lt (block_inside pos (Nat.mod_lt _ wide)) (block_inside pos ?_)
    exact Nat.div_lt_of_lt_mul below
  · rw [copyByte, if_neg (by omega)]
    simp only [place]

theorem sendsPixel_region {q : Rect} {f k : Nat} (depth : r.depth = 8 ∨ r.depth = 12) (factor : f = 2 ∨ f = 4)
    (below : k < regionWidth q f * regionHeight q f) :
    SendsPixel r (regionByte r m q f) k (blockPixel r m (q.x + f * (k % regionWidth q f)) (q.y + f * (k / regionWidth q f))
      (min f (q.w - f * (k % regionWidth q f))) (min f (q.h - f * (k / regionWidth q f)))) := by
  have pos : 0 < f := by omega
  have wide : 0 < regionWidth q f := Nat.pos_of_mul_pos_right (Nat.zero_lt_of_lt below)
  refine sendsPixel_of_bytes depth ?_ fun i place => ?_
  · refine blockPixel_lt (block_inside pos (Nat.mod_lt _ wide)) (block_inside pos ?_)
    exact Nat.div_lt_of_lt_mul below
  · rw [regionByte]
    simp only [place]
    exact if_neg (by omega)

theorem covers_iff {column row : Nat} : r.covers column row = true ↔ column < r.width ∧ row < r.height := by
  rw [FrameRecord.covers, Bool.and_eq_true, decide_eq_true_iff, decide_eq_true_iff]

theorem regionWidth_one (q : Rect) : regionWidth q 1 = q.w := by
  rw [regionWidth, ceilDiv]
  omega

/-- Byte `j` of pixel `k` of a region at factor 1 (R139). -/
theorem regionByte_one (q : Rect) {k j : Nat} (byte : j < bytesPerPixel r.depth) :
    regionByte r m q 1 (bytesPerPixel r.depth * k + j) =
      if r.covers (q.x + k % q.w) (q.y + k / q.w) then
        (if bytesPerPixel r.depth * ((q.y + k / q.w) * r.width + (q.x + k % q.w)) + bytesPerPixel r.depth ≤ r.payload then
          storedByte r m (bytesPerPixel r.depth * ((q.y + k / q.w) * r.width + (q.x + k % q.w)) + j) else 0)
      else pixelByteOf r.depth (outsidePixel r (q.x + k % q.w) (q.y + k / q.w)) j := by
  have pos : 0 < bytesPerPixel r.depth := Nat.zero_lt_of_lt byte
  have place : (bytesPerPixel r.depth * k + j) / bytesPerPixel r.depth = k := by
    rw [Nat.mul_add_div pos, Nat.div_eq_of_lt byte, Nat.add_zero]
  have rest : (bytesPerPixel r.depth * k + j) % bytesPerPixel r.depth = j := by
    rw [Nat.mul_add_mod, Nat.mod_eq_of_lt byte]
  simp only [regionByte, place, rest, regionWidth_one, if_true, Nat.one_mul]
  cases r.covers (q.x + k % q.w) (q.y + k / q.w) <;> rfl

end Sys2Proof.Machine

open Sys2Proof Sys2Proof.Machine Sys2Proof.Safety

/-- Settles O41: averages, packing and stored bytes of copies and regions. -/
theorem copyBytesAreTheRule : Obligations.CopyBytesAreTheRule := by
  unfold Obligations.CopyBytesAreTheRule
  refine ⟨⟨fun r m x y w h lo hi wide high bounds => ?average, by decide⟩,
    fun r m i => ⟨fun beyond => ?beyond, fun b inside block => ?full⟩,
    fun r m depth => ?pixels⟩
  case average =>
    obtain ⟨low, upper⟩ := blockPixel_bounds wide high bounds
    exact ⟨low, upper, rfl⟩
  case beyond =>
    show storedByte r m i = 0
    rw [storedByte_eq, if_neg (Nat.not_lt.mpr beyond)]
  case full =>
    show storedByte r m i = _
    rw [storedByte_eq, if_pos inside, blockByte, block]
    rfl
  case pixels =>
    intro stored sends
    refine ⟨fun f k factor below => sendsPixel_copy depth factor below,
      fun q f k factor below => sendsPixel_region depth factor below,
      ?inside, ?outside, ?value⟩
    case inside =>
      intro q k j b unit byte below x y first column row
      replace unit : b = bytesPerPixel r.depth := unit
      rw [unit] at byte
      have covered : r.covers x y = true := covers_iff.mpr ⟨column, row⟩
      simp only [first, unit]
      rw [regionByte_one q byte, if_pos covered, storedByte_eq]
      by_cases whole : bytesPerPixel r.depth * (y * r.width + x) + bytesPerPixel r.depth ≤ r.payload
      · rw [if_pos whole, if_pos whole, if_pos ((Nat.add_lt_add_left byte _).trans_le whole)]
        rfl
      · rw [if_neg whole, if_neg whole]
    case outside =>
      intro q k below x y outside
      refine sendsPixel_of_bytes depth (outsidePixel_lt r x y) fun i place => ?_
      have pos : 0 < bytesPerPixel r.depth := by
        rw [bytesPerPixel]
        split <;> decide
      have uncovered : ¬ r.covers x y = true := fun covered => outside (covers_iff.mp covered)
      have own := regionByte_one (r := r) (m := m) q (k := k) (Nat.mod_lt i pos)
      have whole : bytesPerPixel r.depth * k + i % bytesPerPixel r.depth = i := by
        rw [← place, Nat.div_add_mod]
      rwa [if_neg uncovered, whole] at own
    case value =>
      intro x y k
      refine ⟨fun column row => ?_, fun outside => ?_⟩
      · have covered : r.covers x y = true := covers_iff.mpr ⟨column, row⟩
        simp only [pixelValue, covered, Bool.not_true, Bool.false_eq_true, if_false, storedByte_eq]
        split
        · split
          next inside => rw [if_pos (by omega)]; rfl
          next => rfl
        · split <;> rfl
      · have uncovered : ¬ r.covers x y = true := fun covered => outside (covers_iff.mp covered)
        rw [pixelValue, if_pos (by simpa using uncovered)]
        rfl
end

section
/-! The segment boundary: aborts, replies, reports, the deadline transmission and the ends of transmissions: O42, O43 (8.1, 8.4,
8.5). -/

namespace Sys2Proof.Machine

open Sys2Proof.Safety

variable {s : State}

theorem exec_segmentBoundary (s : State) : exec .segmentBoundary s = .next (chooseSegment (endSegment s)) :=
  rfl

/-! ## The segment that has ended -/

theorem endDeadline_of_runs (runs : ∀ x, s.uplink.deadline = some x → x.last = false ∨ x.abort = true) : endDeadline s = s := by
  cases open_ : s.uplink.deadline with
  | none => simp only [endDeadline, open_]
  | some x => rcases runs x open_ with last | abort <;> simp [endDeadline, *]

theorem endRegion_of_runs (runs : ∀ x, s.uplink.region = some x → x.last = false) : endRegion s = s := by
  cases open_ : s.uplink.region with
  | none => simp only [endRegion, open_]
  | some x => simp [endRegion, open_, runs x open_]

theorem endBackground_of_runs (runs : ∀ x, s.uplink.background = some x → x.last = false ∨ x.abort = true) :
    endBackground s = s := by
  cases open_ : s.uplink.background with
  | none => simp only [endBackground, open_]
  | some x => rcases runs x open_ with last | abort <;> simp [endBackground, *]

/-- Where no transmission ends with the segment on the lane, the boundary is the arbiter's choice. -/
theorem exec_segmentBoundary_of_runs (deadline : ∀ x, s.uplink.deadline = some x → x.last = false ∨ x.abort = true)
    (region : ∀ x, s.uplink.region = some x → x.last = false)
    (background : ∀ x, s.uplink.background = some x → x.last = false ∨ x.abort = true) :
    exec .segmentBoundary s = .next (chooseSegment s) := by
  rw [exec_segmentBoundary, endSegment, endDeadline_of_runs deadline, endRegion_of_runs region, endBackground_of_runs background]

theorem exec_segmentBoundary_of_noEnding (running : noEnding s) : exec .segmentBoundary s = .next (chooseSegment s) := by
  obtain ⟨-, deadline, region, background⟩ := running
  exact exec_segmentBoundary_of_runs (fun x open_ => .inl (deadline x open_).1) region fun x open_ => .inl (background x open_).1

/-! ## Order 0: ABORTs owed (R132, R135) -/

theorem find?_clearAborts_eq_none {k : TxKind} (none_ : ∀ a ∈ s.uplink.clearAborts, a.kind ≠ k) :
    (s.uplink.clearAborts.find? fun a => a.kind == k) = none :=
  List.find?_eq_none.mpr fun a member => by
    rw [beq_iff_eq]
    exact none_ a member

theorem owedFor_deadline_eq_none (none_ : ∀ a ∈ s.uplink.clearAborts, a.kind ≠ .deadline)
    (unmarked : ∀ x, s.uplink.deadline = some x → x.abort = false) : owedFor .deadline s = none := by
  rw [owedFor, find?_clearAborts_eq_none none_]
  cases open_ : s.uplink.deadline with
  | none => rfl
  | some x => simp [unmarked x open_]

theorem owedFor_region_eq_none (none_ : ∀ a ∈ s.uplink.clearAborts, a.kind ≠ .region) : owedFor .region s = none := by
  rw [owedFor, find?_clearAborts_eq_none none_]

theorem owedFor_background_eq_none (none_ : ∀ a ∈ s.uplink.clearAborts, a.kind ≠ .background)
    (unmarked : ∀ x, s.uplink.background = some x → x.abort = false) : owedFor .background s = none := by
  rw [owedFor, find?_clearAborts_eq_none none_]
  cases open_ : s.uplink.background with
  | none => rfl
  | some x => simp [unmarked x open_]

theorem owedFor_deadline_of_marked {x : DeadlineTx} (none_ : ∀ a ∈ s.uplink.clearAborts, a.kind ≠ .deadline)
    (open_ : s.uplink.deadline = some x) (marked : x.abort = true) :
    owedFor .deadline s = some { kind := .deadline, frame := x.frame, number := 0, reason := .void } := by
  rw [owedFor, find?_clearAborts_eq_none none_]
  simp only [open_, Option.bind_some, marked, if_true]

theorem owedFor_background_of_marked {x : BackgroundTx} (none_ : ∀ a ∈ s.uplink.clearAborts, a.kind ≠ .background)
    (open_ : s.uplink.background = some x) (marked : x.abort = true) :
    owedFor .background s = some { kind := .background, frame := x.frame, number := 0, reason := .void } := by
  rw [owedFor, find?_clearAborts_eq_none none_]
  simp only [open_, Option.bind_some, marked, if_true]

/-- After CLEAR the first ABORT of a kind is owed for it (R135). -/
theorem owedFor_of_clear {before after : List Abort} {a : Abort} (aborts : s.uplink.clearAborts = before ++ a :: after)
    (first : ∀ b ∈ before, b.kind ≠ a.kind) : owedFor a.kind s = some a := by
  have earlier : (before.find? fun b => b.kind == a.kind) = none := List.find?_eq_none.mpr fun b member => by
    rw [beq_iff_eq]
    exact first b member
  have found : (s.uplink.clearAborts.find? fun b => b.kind == a.kind) = some a := by
    rw [aborts, List.find?_append, earlier, Option.none_or, List.find?_cons, beq_self_eq_true]
  simp only [owedFor, found]

theorem owedAbort_eq (s : State) :
    owedAbort s = ((owedFor .deadline s).or (owedFor .region s)).or (owedFor .background s) := by
  simp only [owedAbort, List.findSome?]
  cases owedFor .deadline s <;> cases owedFor .region s <;> cases owedFor .background s <;> rfl

theorem owedAbort_of_noEnding (running : noEnding s) : owedAbort s = none := by
  obtain ⟨aborts, deadline, -, background⟩ := running
  have none_ (k : TxKind) : ∀ a ∈ s.uplink.clearAborts, a.kind ≠ k := by
    rw [aborts]
    exact fun _ member => absurd member List.not_mem_nil
  rw [owedAbort_eq, owedFor_deadline_eq_none (none_ _) fun x open_ => (deadline x open_).2, owedFor_region_eq_none (none_ _),
    owedFor_background_eq_none (none_ _) fun x open_ => (background x open_).2]
  rfl

theorem chooseSegment_of_abort {a : Abort} (up : s.link.state = .up) (owed : owedAbort s = some a) :
    chooseSegment s = sendAbort a s := by
  simp only [chooseSegment, up, owed]

theorem chooseSegment_of_noEnding (up : s.link.state = .up) (running : noEnding s) : chooseSegment s = chooseQueued s := by
  simp only [chooseSegment, up, owedAbort_of_noEnding running]

theorem sendAbort_of_deadline {a : Abort} (kind : a.kind = .deadline) (reason : a.reason = .void) :
    sendAbort a s = { closedOn a.frame s with
      uplink := { (closedOn a.frame s).uplink with deadline := none, lane := segment .abort a.bytes } } := by
  simp only [sendAbort, reason, kind, reportClosing_eq]
  rfl

theorem sendAbort_of_background {a : Abort} (kind : a.kind = .background) (reason : a.reason = .void) :
    sendAbort a s = { closedOn a.frame s with
      uplink := { (closedOn a.frame s).uplink with background := none, lane := segment .abort a.bytes } } := by
  simp only [sendAbort, reason, kind, reportClosing_eq]
  rfl

theorem sendAbort_of_clear {a : Abort} (reason : a.reason = .clear) : sendAbort a s = { s with
    uplink.clearAborts := s.uplink.clearAborts.erase a, uplink.lane := segment .abort a.bytes } := by
  simp only [sendAbort, reason]
  rfl

/-! ## Data segments (R128) -/

theorem carries_dataSegment (k : SegmentKind) (id : FrameId) (number : Byte) (p offset : Nat) (byte : Nat → Byte) :
    Carries (dataSegment k id number p offset byte) k id number p offset byte := by
  refine ⟨rfl, rfl, rfl, rfl, rfl, ?_, fun j below => ?_, decide_eq_true_iff⟩
  · show (run byte offset (nextPayload p offset)).length = _
    rw [run, List.length_map, List.length_range]
    rfl
  · show (run byte offset (nextPayload p offset))[j]? = _
    rw [run, List.getElem?_map, List.getElem?_range (show j < nextPayload p offset from below)]
    rfl

theorem chooseQueued_of_none (replies : s.uplink.replies = []) (reports : s.uplink.reports = []) :
    chooseQueued s = chooseDeadline s := by
  simp only [chooseQueued, replies, reports]

/-! ## Transmissions that end (R128, R136, R139) -/

theorem finer_copyOfFactor {f : Nat} (b : BestCopy) (factor : f ∈ [1, 2, 4]) : b.finer (copyOfFactor f)
    = if f = 1 ∨ b = .full then .full else if f = 2 ∨ b = .f2 then .f2 else .f4 := by
  simp only [List.mem_cons, List.not_mem_nil, or_false] at factor
  rcases factor with rfl | rfl | rfl <;> cases b <;> rfl

theorem reportCompletion_eq {id : FrameId} {f : Nat} (factor : f ∈ [1, 2, 4]) : reportCompletion id f s = completedOn id f s := by
  rw [reportCompletion, updFrame_eq, completedOn, ← finer_copyOfFactor _ factor]

theorem endDeadline_of_last {x : DeadlineTx} (open_ : s.uplink.deadline = some x) (last : x.last = true) (runs : x.abort = false)
    (factor : x.factor ∈ [1, 2, 4]) :
    endDeadline s = completedOn x.frame x.factor { s with uplink.deadline := none } := by
  rw [← reportCompletion_eq factor]
  simp only [endDeadline, open_, last, runs, Bool.not_false, Bool.and_self, if_true]

theorem endRegion_of_last {x : RegionTx} (open_ : s.uplink.region = some x) (last : x.last = true) :
    endRegion s = closedOn x.frame { s with uplink.region := none } := by
  rw [← reportClosing_eq]
  simp only [endRegion, open_, last, if_true]

theorem endBackground_of_last {x : BackgroundTx} (open_ : s.uplink.background = some x) (last : x.last = true)
    (runs : x.abort = false) : endBackground s = completedOn x.frame 1 { s with uplink.background := none } := by
  rw [← reportCompletion_eq (by decide)]
  simp only [endBackground, open_, last, runs, Bool.not_false, Bool.and_self, if_true]

end Sys2Proof.Machine

open Sys2Proof Sys2Proof.Machine Sys2Proof.Safety

/-- Settles O42: IDLE while not UP, then ABORTs, replies and reports. -/
theorem abortsRepliesReports : Obligations.AbortsRepliesReports := by
  unfold Obligations.AbortsRepliesReports
  refine ⟨fun s running aligning => ?idle, fun s up region => ?aborts, fun s running up => ⟨fun r rest replies => ?reply,
    fun r rest none_ reports => ?report⟩⟩
  case idle =>
    rw [exec_segmentBoundary_of_noEnding running]
    simp only [chooseSegment, aligning, sendIdle, LinkState.code]
    rfl
  case aborts =>
    intro abort
    refine ⟨fun x open_ marked none_ background => ?deadline, fun y open_ marked none_ deadline => ?background,
      fun before after a aborts reason first rest deadline background => ?clear⟩
    case deadline =>
      have owed : owedAbort s = some { kind := .deadline, frame := x.frame, number := 0, reason := .void } := by
        rw [owedAbort_eq, owedFor_deadline_of_marked none_ open_ marked]
        rfl
      rw [exec_segmentBoundary_of_runs _ region, chooseSegment_of_abort up owed, sendAbort_of_deadline rfl rfl]
      · rfl
      · intro y other
        cases last : y.last with
        | false => exact .inl rfl
        | true => exact .inr (background y other last)
      · intro z same
        rw [open_] at same
        cases same
        exact .inr marked
    case background =>
      have none_of (k : TxKind) : ∀ a ∈ s.uplink.clearAborts, a.kind ≠ k := by
        rw [none_]
        exact fun _ member => absurd member List.not_mem_nil
      have owed : owedAbort s = some { kind := .background, frame := y.frame, number := 0, reason := .void } := by
        rw [owedAbort_eq, owedFor_deadline_eq_none (none_of _) fun x other => (deadline x other).2,
          owedFor_region_eq_none (none_of _), owedFor_background_of_marked (none_of _) open_ marked]
        rfl
      rw [exec_segmentBoundary_of_runs (fun x other => .inl (deadline x other).1) region, chooseSegment_of_abort up owed,
        sendAbort_of_background rfl rfl]
      · rfl
      · intro z same
        rw [open_] at same
        cases same
        exact .inr marked
    case clear =>
      have own := owedFor_of_clear aborts first
      have others {k : TxKind} (behind : a.kind ≠ k) (away : ∀ b ∈ before ++ after, b.kind ≠ k) :
          ∀ b ∈ s.uplink.clearAborts, b.kind ≠ k := by
        rw [aborts]
        intro b member
        rcases List.mem_append.mp member with earlier | later
        · exact away b (List.mem_append_left _ earlier)
        · rcases List.mem_cons.mp later with rfl | later
          · exact behind
          · exact away b (List.mem_append_right _ later)
      have noDeadline (kind : a.kind ≠ .deadline) : owedFor .deadline s = none := by
        refine owedFor_deadline_eq_none (others kind fun b member => ?_) fun x open_ => (deadline x open_).2
        cases same : a.kind with
        | deadline => exact absurd same kind
        | region => exact (rest b member).1 same
        | background => rw [(rest b member).2 same]; decide
      have owed : owedAbort s = some a := by
        rw [owedAbort_eq]
        cases kind : a.kind with
        | deadline =>
          rw [kind] at own
          rw [own]
          rfl
        | region =>
          rw [kind] at own
          rw [noDeadline (by rw [kind]; decide), own]
          rfl
        | background =>
          rw [kind] at own
          have noRegion : owedFor .region s = none :=
            owedFor_region_eq_none (others (by rw [kind]; decide) fun b member => by rw [(rest b member).2 kind]; decide)
          rw [noDeadline (by rw [kind]; decide), noRegion, own]
          rfl
      have left : s.uplink.clearAborts.erase a = before ++ after := by
        have missing : a ∉ before := fun member => first a member rfl
        rw [aborts, List.erase_append_right _ missing, List.erase_cons_head]
      rw [exec_segmentBoundary_of_runs (fun x open_ => .inl (deadline x open_).1) region fun y open_ => .inl (background y open_).1,
        chooseSegment_of_abort up owed, sendAbort_of_clear reason, left, Abort.bytes, reason]
      rfl
  case reply =>
    rw [exec_segmentBoundary_of_noEnding running, chooseSegment_of_noEnding up running]
    have first : chooseQueued s = sendReply r rest s := by simp only [chooseQueued, replies]
    rw [first]
    rfl
  case report =>
    rw [exec_segmentBoundary_of_noEnding running, chooseSegment_of_noEnding up running]
    have first : chooseQueued s = sendReport r rest s := by simp only [chooseQueued, none_, reports]
    rw [first]
    rfl

/-- Settles O43: a deadline transmission's data, and the ends of transmissions. -/
theorem deadlineTransmissionRuns : Obligations.DeadlineTransmissionRuns := by
  unfold Obligations.DeadlineTransmissionRuns
  refine ⟨fun s x running up replies reports open_ => ?data, fun s => ?ends⟩
  case data =>
    intro p
    refine ⟨dataSegment .frameData x.frame 0 p x.offset (copyByte (frameOf x.frame s) s.store.mem x.factor), ?_,
      carries_dataSegment _ _ _ _ _ _⟩
    have next : chooseDeadline s = sendDeadline x s := by simp only [chooseDeadline, open_]
    rw [exec_segmentBoundary_of_noEnding running, chooseSegment_of_noEnding up running, chooseQueued_of_none replies reports, next]
    rfl
  case ends =>
    intro deadlineOn regionOn
    refine ⟨fun x open_ last runs factor => ?deadline, fun x deadline open_ last => ?region,
      fun x deadline region open_ last runs => ?background⟩
    case deadline =>
      have closed : endDeadline (completedOn x.frame x.factor { s with uplink.deadline := none })
          = completedOn x.frame x.factor { s with uplink.deadline := none } :=
        endDeadline_of_runs fun y still => absurd still.symm (Option.some_ne_none y)
      rw [exec_segmentBoundary, exec_segmentBoundary, endSegment, endSegment, endDeadline_of_last open_ last runs factor, closed]
    case region =>
      have waits : endDeadline (closedOn x.frame { s with uplink.region := none })
        = closedOn x.frame { s with uplink.region := none } :=
        endDeadline_of_runs deadline
      have closed : endRegion (closedOn x.frame { s with uplink.region := none })
        = closedOn x.frame { s with uplink.region := none } :=
        endRegion_of_runs fun y still => absurd still.symm (Option.some_ne_none y)
      rw [exec_segmentBoundary, exec_segmentBoundary, endSegment, endSegment, endDeadline_of_runs deadline,
        endRegion_of_last open_ last, waits, closed]
    case background =>
      have waits : endDeadline (completedOn x.frame 1 { s with uplink.background := none })
          = completedOn x.frame 1 { s with uplink.background := none } :=
        endDeadline_of_runs deadline
      have still : endRegion (completedOn x.frame 1 { s with uplink.background := none })
          = completedOn x.frame 1 { s with uplink.background := none } :=
        endRegion_of_runs region
      have closed : endBackground (completedOn x.frame 1 { s with uplink.background := none })
          = completedOn x.frame 1 { s with uplink.background := none } :=
        endBackground_of_runs fun y open_ => absurd open_.symm (Option.some_ne_none y)
      rw [exec_segmentBoundary, exec_segmentBoundary, endSegment, endSegment, endDeadline_of_runs deadline,
        endRegion_of_runs region,
        endBackground_of_last open_ last runs, waits, still, closed]
end

section
/-! The pick (8.2): the candidates of a walk, their order, and the frames that a walk sheds. -/

namespace Sys2Proof.Machine

open Sys2Proof.Safety

variable {s : State}

/-! ## Candidates (R126) -/

/-- A search by tag finds the first record that carries it, at its place. -/
theorem findTag_eq (tag : Tag) (items : List Item) (d : Nat) : findTag tag.val items d =
    (items.findIdx? fun i => i.tag == tag).elim .noItem fun k =>
      (items.find? fun i => i.tag == tag).elim .noItem fun i => .found (d + k) i := by
  induction items generalizing d with
  | nil => rfl
  | cons i rest ih =>
    rw [findTag, List.findIdx?_cons, List.find?_cons]
    by_cases own : i.tag = tag
    · simp [own]
    · have differ : i.tag.val ≠ tag.val := fun same => own (Fin.ext same)
      rw [if_neg differ, ih, beq_false_of_ne own]
      cases rest.findIdx? fun i => i.tag == tag with
      | none => rfl
      | some k =>
        cases rest.find? fun i => i.tag == tag with
        | none => rfl
        | some j => simp [Nat.add_comm, Nat.add_left_comm]

/-- The candidate of a frame has the frame's deadline, its item's place and its station (R126, R127). -/
theorem candidate?_eq_some_iff {id : FrameId} {c : Candidate} : candidate? s id = some c ↔
    c.frame = id ∧ deadlineOf id s = some c.deadline ∧ placeOf id s = some c.place ∧ c.station = (frameOf id s).station.val := by
  obtain ⟨frame, deadline, place, station⟩ := c
  rw [candidate?, findTag_eq, deadlineOf, itemOf?, placeOf]
  cases found : s.queue.items.find? fun i => i.tag == (frameOf id s).tag with
  | none =>
    have missing : (s.queue.items.findIdx? fun i => i.tag == (frameOf id s).tag) = none := by
      rw [List.findIdx?_eq_none_iff]
      intro i member
      simpa using List.find?_eq_none.mp found i member
    simp [missing]
  | some i =>
    cases stands : s.queue.items.findIdx? fun i => i.tag == (frameOf id s).tag with
    | none => simp
    | some k =>
      simp only [Option.elim_some, Option.some.injEq, Candidate.mk.injEq, Option.map_some, Nat.zero_add]
      constructor
      · rintro ⟨rfl, rfl, rfl, rfl⟩
        exact ⟨rfl, rfl, rfl, rfl⟩
      · rintro ⟨rfl, rfl, rfl, rfl⟩
        exact ⟨rfl, rfl, rfl, rfl⟩

theorem placeOf_isSome {id : FrameId} {l : Int} (deadline : deadlineOf id s = some l) : ∃ k, placeOf id s = some k := by
  obtain ⟨i, found, -⟩ := Option.map_eq_some_iff.mp deadline
  obtain ⟨member, own⟩ := mem_of_itemOf? found
  rw [placeOf, ← Option.isSome_iff_exists, List.findIdx?_isSome, List.any_eq_true]
  exact ⟨i, member, beq_iff_eq.mpr own⟩

theorem isPending_iff {id : FrameId} (closed : s.uplink.deadline = none) : isPending s id = true ↔ pendingFrame id s := by
  simp only [isPending, closed, pendingFrame, Bool.and_eq_true, beq_iff_eq, and_true, and_assoc]

/-! ## The order of a walk (R127) -/

theorem Candidate.before_iff {c d : Candidate} : c.before d = true ↔ c.deadline < d.deadline
    ∨ (c.deadline = d.deadline ∧ (c.place < d.place ∨ (c.place = d.place ∧ c.station ≤ d.station))) := by
  simp only [Candidate.before, Bool.or_eq_true, Bool.and_eq_true, decide_eq_true_iff, beq_iff_eq]

theorem insertCandidate_eq (c : Candidate) (l : List Candidate) :
    insertCandidate c l = l.orderedInsert (fun a b => a.before b = true) c := by
  induction l with
  | nil => rfl
  | cons d l ih => rw [insertCandidate, List.orderedInsert_cons, ih]

theorem walkOrder_eq (s : State) : walkOrder s =
    ((allFrameIds.filter (isPending s)).filterMap (candidate? s)).insertionSort fun a b => a.before b = true := by
  have insert : insertCandidate = List.orderedInsert fun a b => a.before b = true := by
    funext c l
    exact insertCandidate_eq c l
  rw [walkOrder, insert]
  rfl

theorem pairwise_walkOrder (s : State) : (walkOrder s).Pairwise fun a b => a.before b = true := by
  have total : Std.Total fun a b : Candidate => a.before b = true := ⟨fun a b => by
    rw [Candidate.before_iff, Candidate.before_iff]
    omega⟩
  have trans_ : IsTrans Candidate fun a b => a.before b = true := ⟨fun a b c => by
    rw [Candidate.before_iff, Candidate.before_iff, Candidate.before_iff]
    omega⟩
  rw [walkOrder_eq]
  exact List.pairwise_insertionSort _ _

theorem mem_walkOrder_iff {c : Candidate} (closed : s.uplink.deadline = none) : c ∈ walkOrder s ↔
    pendingFrame c.frame s ∧ candidate? s c.frame = some c := by
  rw [walkOrder_eq, List.mem_insertionSort, List.mem_filterMap]
  constructor
  · rintro ⟨id, member, own⟩
    obtain ⟨rfl, -⟩ := candidate?_eq_some_iff.mp own
    exact ⟨(isPending_iff closed).mp (List.mem_filter.mp member).2, own⟩
  · rintro ⟨pending, own⟩
    refine ⟨c.frame, List.mem_filter.mpr ⟨?_, (isPending_iff closed).mpr pending⟩, own⟩
    rw [allFrameIds_eq_finRange]
    exact List.mem_finRange _

/-- No frame is looked at twice. -/
theorem nodup_walkOrder (s : State) : ((walkOrder s).map Candidate.frame).Nodup := by
  have frames (l : List FrameId) : (l.filterMap (candidate? s)).map Candidate.frame
      = l.filter fun id => (candidate? s id).isSome := by
    induction l with
    | nil => rfl
    | cons id l ih =>
      cases own : candidate? s id with
      | none => simpa [own] using ih
      | some c =>
        obtain ⟨frame, -⟩ := candidate?_eq_some_iff.mp own
        simpa [own, frame] using ih
  rw [walkOrder_eq, (List.Perm.map _ (List.perm_insertionSort _ _)).nodup_iff, frames, allFrameIds_eq_finRange]
  exact ((List.nodup_finRange 1024).filter _).filter _

/-! ## Frames shed (R127) -/

/-- A frame passed over: shed, and noted. -/
def FrameRecord.passed (r : FrameRecord) : FrameRecord :=
  { r with shed := true, shedNote := true }

/-- The state once the frames of a list have been shed: each that was not noted is counted (7). -/
def shedOn (ids : List FrameId) (s : State) : State :=
  { s with
    store.frames := Vector.ofFn fun id : Fin 1024 => if id ∈ ids then (frameOf id s).passed else frameOf id s
    port.counts := s.port.counts.set 7 (BitVec.ofNat 16 (min 65535 (s.port.counts[(7 : Fin 14)].toNat
      + ids.countP fun id => !(frameOf id s).shedNote))) }

theorem frameOf_shedOn (ids : List FrameId) (id : FrameId) (s : State) :
    frameOf id (shedOn ids s) = if id ∈ ids then (frameOf id s).passed else frameOf id s := by
  simp [frameOf, shedOn]

theorem count_shedOn (ids : List FrameId) (s : State) : (shedOn ids s).port.counts[(7 : Fin 14)].toNat
    = min 65535 (s.port.counts[(7 : Fin 14)].toNat + ids.countP fun id => !(frameOf id s).shedNote) := by
  have own : (shedOn ids s).port.counts[(7 : Fin 14)] = BitVec.ofNat 16 (min 65535 (s.port.counts[(7 : Fin 14)].toNat
      + ids.countP fun id => !(frameOf id s).shedNote)) := Vector.getElem_set_self _
  rw [own, BitVec.toNat_ofNat, Nat.mod_eq_of_lt (by omega)]

theorem frameOf_shedFrame (x id : FrameId) (s : State) :
    frameOf x (shedFrame id s) = if x = id then (frameOf id s).passed else frameOf x s := by
  have marked (t : State) (same : t.store = (setFrame id (frameOf id s).passed s).store) :
      frameOf x t = if x = id then (frameOf id s).passed else frameOf x s := by
    rw [frameOf, same, setFrame]
    by_cases own : x = id
    · simp [own]
    · rw [if_neg own]
      exact Vector.getElem_set_ne id.isLt x.isLt fun equal => own (Fin.ext equal.symm)
  rw [shedFrame]
  split
  · exact marked _ rfl
  · exact marked _ (by rw [bump_eq]; rfl)

theorem shedOn_nil (s : State) : shedOn [] s = s := by
  have frames : (Vector.ofFn fun id : Fin 1024 => if id ∈ ([] : List FrameId) then (frameOf id s).passed else frameOf id s)
      = s.store.frames := by
    ext1 n inside
    simp [frameOf]
  have counts : (s.port.counts.set 7 (BitVec.ofNat 16 (min 65535 (s.port.counts[(7 : Fin 14)].toNat + 0)))) = s.port.counts := by
    have small : min 65535 (s.port.counts[(7 : Fin 14)].toNat + 0) = s.port.counts[(7 : Fin 14)].toNat := by
      have := s.port.counts[(7 : Fin 14)].isLt
      omega
    rw [small, BitVec.ofNat_toNat]
    simp
  rw [shedOn, frames, List.countP_nil, counts]

theorem port_shedFrame (id : FrameId) (s : State) : (shedFrame id s).port = { s.port with
    counts := s.port.counts.set 7 (BitVec.ofNat 16 (min 65535 (s.port.counts[(7 : Fin 14)].toNat
      + if (frameOf id s).shedNote then 0 else 1))) } := by
  have small := s.port.counts[(7 : Fin 14)].isLt
  rw [shedFrame]
  split
  next noted_ =>
    have same : min 65535 (s.port.counts[(7 : Fin 14)].toNat + 0) = s.port.counts[(7 : Fin 14)].toNat := by omega
    rw [same, BitVec.ofNat_toNat, BitVec.setWidth_eq]
    have own : s.port.counts.set 7 s.port.counts[(7 : Fin 14)] = s.port.counts := by simp
    rw [own]
    rfl
  next =>
    have up : oneMore s.port.counts[(7 : Fin 14)] = BitVec.ofNat 16 (min 65535 (s.port.counts[(7 : Fin 14)].toNat + 1)) := by
      refine BitVec.eq_of_toNat_eq ?_
      rw [oneMore_toNat, BitVec.toNat_ofNat, Nat.mod_eq_of_lt (by omega)]
    rw [bump_eq, ← up]
    rfl

theorem shedFrame_eq (id : FrameId) (s : State) : shedFrame id s = { s with
    store := (setFrame id (frameOf id s).passed s).store, port := (shedFrame id s).port } := by
  rw [shedFrame]
  split
  · rfl
  · rw [bump_eq]
    rfl

/-- A frame shed, then the others of a list that it does not stand in. -/
theorem shedOn_cons {id : FrameId} {ids : List FrameId} (apart : id ∉ ids) (s : State) :
    shedOn ids (shedFrame id s) = shedOn (id :: ids) s := by
  have frames : (Vector.ofFn fun x : Fin 1024 =>
      if x ∈ ids then (frameOf x (shedFrame id s)).passed else frameOf x (shedFrame id s))
        = Vector.ofFn fun x : Fin 1024 => if x ∈ id :: ids then (frameOf x s).passed else frameOf x s := by
    congr 1
    funext x
    rw [frameOf_shedFrame]
    by_cases own : x = id
    · rw [if_neg (own ▸ apart), if_pos own, if_pos (own ▸ List.mem_cons_self), own]
    · simp [own]
  have noted_ : (ids.countP fun x => !(frameOf x (shedFrame id s)).shedNote) = ids.countP fun x => !(frameOf x s).shedNote :=
    List.countP_congr fun x member => by
      rw [frameOf_shedFrame, if_neg fun own : x = id => apart (own ▸ member)]
  have first : (shedFrame id s).port.counts[(7 : Fin 14)].toNat
      = min 65535 (s.port.counts[(7 : Fin 14)].toNat + if (frameOf id s).shedNote then 0 else 1) := by
    have value : (shedFrame id s).port.counts[(7 : Fin 14)]
        = BitVec.ofNat 16 (min 65535 (s.port.counts[(7 : Fin 14)].toNat + if (frameOf id s).shedNote then 0 else 1)) := by
      rw [port_shedFrame]
      exact Vector.getElem_set_self _
    rw [value, BitVec.toNat_ofNat, Nat.mod_eq_of_lt (by omega)]
  have total : min 65535 ((shedFrame id s).port.counts[(7 : Fin 14)].toNat + ids.countP fun x => !(frameOf x s).shedNote)
      = min 65535 (s.port.counts[(7 : Fin 14)].toNat + (id :: ids).countP fun x => !(frameOf x s).shedNote) := by
    rw [first, List.countP_cons]
    cases (frameOf id s).shedNote <;> simp <;> omega
  rw [shedOn, shedOn, frames, noted_, total, port_shedFrame, shedFrame_eq]
  simp only [Vector.set_set]
  rfl

theorem foldl_shedFrame {ids : List FrameId} (apart : ids.Nodup) (s : State) :
    ids.foldl (fun t id => shedFrame id t) s = shedOn ids s := by
  induction ids generalizing s with
  | nil => exact (shedOn_nil s).symm
  | cons id ids ih =>
    obtain ⟨away, rest⟩ := List.nodup_cons.mp apart
    rw [List.foldl_cons, ih rest, shedOn_cons away]

/-! ## The walk (R127) -/

/-- A factor is found only by the size of the copies, which shedding leaves as it is. -/
theorem fittingFactor_shedFrame (x id : FrameId) (l : Int) (c : Settings) :
    fittingFactor (frameOf x (shedFrame id s)) l c = fittingFactor (frameOf x s) l c := by
  rw [frameOf_shedFrame]
  split
  next own =>
    rw [own]
    rfl
  next => rfl

theorem settings_shedFrame (id : FrameId) : (shedFrame id s).port.settings = s.port.settings := by
  rw [port_shedFrame]

/-- A walk passes over frames that do not fit and ends at the first that does, or at the end of the list. -/
theorem walk_cases (l : List Candidate) (s : State) :
    ((∀ c ∈ l, fittingFactor (frameOf c.frame s) c.deadline s.port.settings = none)
        ∧ walk l s = ((l.map Candidate.frame).foldl (fun t id => shedFrame id t) s, .nothing))
      ∨ ∃ before c after f, l = before ++ c :: after
        ∧ (∀ d ∈ before, fittingFactor (frameOf d.frame s) d.deadline s.port.settings = none)
        ∧ fittingFactor (frameOf c.frame s) c.deadline s.port.settings = some f
        ∧ walk l s = ((before.map Candidate.frame).foldl (fun t id => shedFrame id t) s, .frame c f) := by
  induction l generalizing s with
  | nil => exact .inl ⟨fun c member => absurd member List.not_mem_nil, rfl⟩
  | cons c l ih =>
    cases fit : fittingFactor (frameOf c.frame s) c.deadline s.port.settings with
    | some f =>
      refine .inr ⟨[], c, l, f, rfl, fun d member => absurd member List.not_mem_nil, fit, ?_⟩
      simp only [walk, fit]
      rfl
    | none =>
      have step : walk (c :: l) s = walk l (shedFrame c.frame s) := by simp only [walk, fit]
      have kept (d : Candidate) : fittingFactor (frameOf d.frame (shedFrame c.frame s)) d.deadline (shedFrame c.frame s).port.settings
          = fittingFactor (frameOf d.frame s) d.deadline s.port.settings := by
        rw [settings_shedFrame, fittingFactor_shedFrame]
      have next := ih (shedFrame c.frame s)
      simp only [kept] at next
      rw [step]
      rcases next with ⟨unfit, nothing⟩ | ⟨before, d, after, f, list, unfit, found, picked⟩
      · refine .inl ⟨?_, nothing⟩
        rintro d (_ | ⟨_, member⟩)
        · exact fit
        · exact unfit d member
      · refine .inr ⟨c :: before, d, after, f, by rw [list]; rfl, ?_, found, picked⟩
        rintro e (_ | ⟨_, member⟩)
        · exact fit
        · exact unfit e member

/-- The factor found fits and is the finest that does. -/
theorem fittingFactor_eq_some {id : FrameId} {l : Int} {f : Nat} (found : fittingFactor (frameOf id s) l s.port.settings
    = some f) :
    fits id f l s ∧ ∀ g, g < f → ¬ fits id g l s := by
  rw [fittingFactor, List.find?_eq_some_iff_append] at found
  obtain ⟨own, before, after, list, coarser⟩ := found
  rw [Bool.and_eq_true, decide_eq_true_iff, decide_eq_true_iff] at own
  refine ⟨⟨?_, own⟩, fun g finer fit => ?_⟩
  · rw [list]
    exact List.mem_append_right _ List.mem_cons_self
  · have member : g ∈ before := by
      have sorted : (before ++ f :: after).Pairwise (· < ·) := by
        rw [← list]
        decide
      have inside := fit.1
      rw [list] at inside
      rcases List.mem_append.mp inside with earlier | later
      · exact earlier
      · rcases List.mem_cons.mp later with rfl | later
        · exact absurd finer (Nat.lt_irrefl _)
        · have ahead := List.rel_of_pairwise_cons (List.pairwise_append.mp sorted).2.1 later
          exact absurd finer (Nat.lt_asymm ahead)
    have misfit := coarser g member
    rw [Bool.not_eq_true', Bool.and_eq_false_iff, decide_eq_false_iff_not, decide_eq_false_iff_not] at misfit
    obtain ⟨-, permitted, inTime⟩ := fit
    exact misfit.elim (fun h => h permitted) fun h => h inTime

theorem fittingFactor_eq_none_iff {id : FrameId} {l : Int} :
    fittingFactor (frameOf id s) l s.port.settings = none ↔ ∀ f, ¬ fits id f l s := by
  rw [fittingFactor, List.find?_eq_none]
  simp only [Bool.and_eq_true, decide_eq_true_iff, fits, not_and]

end Sys2Proof.Machine
end

section
/-! The segment boundary below the reports: the pick, regions, background copies, IDLE: O44, O45 (8.1, 8.2). -/

namespace Sys2Proof.Machine

open Sys2Proof.Safety

variable {s : State}

/-! ## What a walk looks at -/

theorem mem_frames_walkOrder_iff {id : FrameId} (closed : s.uplink.deadline = none) :
    id ∈ (walkOrder s).map Candidate.frame ↔ pendingFrame id s ∧ ∃ l, deadlineOf id s = some l := by
  rw [List.mem_map]
  constructor
  · rintro ⟨c, member, rfl⟩
    obtain ⟨pending, own⟩ := (mem_walkOrder_iff closed).mp member
    exact ⟨pending, c.deadline, (candidate?_eq_some_iff.mp own).2.1⟩
  · rintro ⟨pending, l, deadline⟩
    obtain ⟨k, place⟩ := placeOf_isSome deadline
    exact ⟨{ frame := id, deadline := l, place := k, station := (frameOf id s).station.val },
      (mem_walkOrder_iff closed).mpr ⟨pending, candidate?_eq_some_iff.mpr ⟨rfl, deadline, place, rfl⟩⟩, rfl⟩

theorem lookedAt_iff {id : FrameId} (closed : s.uplink.deadline = none) :
    lookedAt id s = true ↔ id ∈ (walkOrder s).map Candidate.frame := by
  rw [mem_frames_walkOrder_iff closed, lookedAt, Bool.and_eq_true, decide_eq_true_iff, Option.isSome_iff_exists]
  rfl

/-- The elements of a list without repetitions that meet a test, counted over all values. -/
theorem countP_finRange_mem {n : Nat} {ids : List (Fin n)} (apart : ids.Nodup) (p : Fin n → Bool) :
    ((List.finRange n).countP fun x => decide (x ∈ ids) && p x) = ids.countP p := by
  have same : ((List.finRange n).filter fun x => decide (x ∈ ids)).Perm ids := by
    rw [List.perm_ext_iff_of_nodup ((List.nodup_finRange n).filter _) apart]
    intro x
    simp
  rw [← same.countP_eq, List.countP_filter]
  exact List.countP_congr fun x _ => by rw [Bool.and_comm]

theorem allShed_eq (closed : s.uplink.deadline = none) : allShed s = shedOn ((walkOrder s).map Candidate.frame) s := by
  have looked (id : FrameId) : lookedAt id s = decide (id ∈ (walkOrder s).map Candidate.frame) := by
    rw [Bool.eq_iff_iff, lookedAt_iff closed, decide_eq_true_iff]
  rw [allShed, shedOn, ← countP_finRange_mem (nodup_walkOrder s)]
  simp only [looked, decide_eq_true_iff]
  rfl

/-- A pick that no pending frame fits takes nothing, and the arbiter goes on (R124, R127). -/
theorem chooseDeadline_of_misfit (closed : s.uplink.deadline = none)
    (misfit : ∀ id l, pendingFrame id s → deadlineOf id s = some l → ∀ f, ¬ fits id f l s) :
    chooseDeadline s = chooseRegion (allShed s) := by
  have nothing : walk (walkOrder s) s = (allShed s, .nothing) := by
    rcases walk_cases (walkOrder s) s with ⟨-, nothing⟩ | ⟨before, c, after, f, list, -, found, -⟩
    · rw [nothing, foldl_shedFrame (nodup_walkOrder s), allShed_eq closed]
    · obtain ⟨pending, own⟩ := (mem_walkOrder_iff closed).mp (list ▸ List.mem_append_right before List.mem_cons_self)
      exact absurd (fittingFactor_eq_some found).1 (misfit c.frame c.deadline pending (candidate?_eq_some_iff.mp own).2.1 f)
  simp only [chooseDeadline, closed, nothing]

/-! ## Openings -/

theorem reportOpening_eq (id : FrameId) (s : State) : reportOpening id s = openedOn id s :=
  updFrame_eq s id _

/-- A record with an open transmission is not freed. -/
theorem settled_openTx_succ (r : FrameRecord) (n : Nat) : settled { r with openTx := n + 1 } = { r with openTx := n + 1 } :=
  if_neg fun free => Nat.succ_ne_zero n free.2.2.2.2

theorem frameOf_openedOn_same (id : FrameId) (s : State) :
    frameOf id (openedOn id s) = { frameOf id s with openTx := (frameOf id s).openTx + 1 } := by
  rw [openedOn, frameOf_withFrame_same, settled_openTx_succ]

theorem frameOf_openedOn_other {x id : FrameId} (other : x ≠ id) (s : State) : frameOf x (openedOn id s) = frameOf x s :=
  frameOf_withFrame_other _ _ other

/-- The frame descriptor of an opening segment, byte by byte (12.4). -/
theorem descriptor_eq (id : FrameId) (r : FrameRecord) (k : TxKind) (f width height payload : Nat) (l slack : Int) :
    descriptor id r
        { kind := k, factor := f, width := width, height := height, payload := payload, segments := dataSegments payload,
          deadline := l,
          slack := slack }
      = descriptorOf id r k.code.toNat f width height payload l slack := by
  have signed (z : Int) : signed4 z = bytes4 (z % 4294967296).toNat := by
    rw [signed4, BitVec.toNat_ofInt]
    rfl
  have kind : BitVec.ofNat 8 k.code.toNat = k.code := by cases k <;> rfl
  have marks : ((if r.damaged then 4 else 0) ||| (if r.truncated then 2 else 0) ||| (if r.shed then 1 else 0) : Byte)
      = (if r.damaged then 4 else 0) + (if r.truncated then 2 else 0) + (if r.shed then 1 else 0) := by
    cases r.damaged <;> cases r.truncated <;> cases r.shed <;> rfl
  simp only [descriptor, descriptorOf, signed, kind, marks, byte1, zeros]
  simp only [List.append_assoc, List.cons_append, List.nil_append]
  rfl

/-! ## What the pick leaves (R127, R128) -/

/-- Two states that agree on what a pick may change: deadline transmission, line port, and every frame's SHED flags. -/
structure SamePick (u t : State) : Prop where
  deadline : t.uplink.deadline = u.uplink.deadline
  port : t.port = u.port
  shed : ∀ id, (frameOf id t).shed = (frameOf id u).shed
  shedNote : ∀ id, (frameOf id t).shedNote = (frameOf id u).shedNote

theorem SamePick.of_fields {u t v : State} (same : SamePick u t) (store : v.store = t.store)
    (deadline : v.uplink.deadline = t.uplink.deadline) (port : v.port = t.port) : SamePick u v where
  deadline := deadline.trans same.deadline
  port := port.trans same.port
  shed id := by rw [frameOf, store]; exact same.shed id
  shedNote id := by rw [frameOf, store]; exact same.shedNote id

theorem SamePick.refl (u : State) : SamePick u u where
  deadline := rfl
  port := rfl
  shed _ := rfl
  shedNote _ := rfl

theorem SamePick.openedOn (id : FrameId) (u : State) : SamePick u (openedOn id u) where
  deadline := rfl
  port := rfl
  shed x := by
    by_cases own : x = id
    · rw [own, frameOf_openedOn_same]
    · rw [frameOf_openedOn_other own]
  shedNote x := by
    by_cases own : x = id
    · rw [own, frameOf_openedOn_same]
    · rw [frameOf_openedOn_other own]

theorem uplink_shedOn (ids : List FrameId) (s : State) : (shedOn ids s).uplink = s.uplink := by
  unfold shedOn
  rfl

theorem settings_shedOn (ids : List FrameId) (s : State) : (shedOn ids s).port.settings = s.port.settings := by
  unfold shedOn
  rfl

/-- What the arbiter sends below the pick leaves what the pick has done (R124). -/
theorem SamePick.chooseRegion (u : State) : SamePick u (chooseRegion u) := by
  unfold Machine.chooseRegion
  split
  · exact (SamePick.refl u).of_fields rfl rfl rfl
  · split
    · rw [openRegion]
      split
      · rw [reportOpening_eq]
        exact (SamePick.openedOn _ u).of_fields rfl rfl rfl
      · exact (SamePick.refl u).of_fields rfl rfl rfl
    · unfold chooseBackground
      split
      · exact (SamePick.refl u).of_fields rfl rfl rfl
      · split
        · rw [openBackground, reportOpening_eq]
          exact (SamePick.openedOn _ u).of_fields rfl rfl rfl
        · exact (SamePick.refl u).of_fields rfl rfl rfl

/-- The record of a frame on which a deadline transmission has opened (R127, R111). -/
def FrameRecord.picked (r : FrameRecord) : FrameRecord :=
  { r with shed := false, openTx := r.openTx + 1 }

theorem FrameRecord.shedNote_picked (r : FrameRecord) : r.picked.shedNote = r.shedNote :=
  rfl

/-- A deadline transmission opens: its state, its segment, its frame (R127, R128). -/
theorem openDeadline_eq (c : Candidate) (f : Nat) (s : State) :
    let r := (frameOf c.frame s).picked
    let slack : Int := c.deadline - sendTime r f s.port.settings.laneRate
    let opened := openedOn c.frame (setFrame c.frame { frameOf c.frame s with shed := false } s)
    openDeadline c f s = { opened with uplink := { opened.uplink with
      deadline := some { frame := c.frame, factor := f, deadline := c.deadline, slack := slack, offset := 0, last := false,
                         abort := false }
      lane := { segment .frameOpen (descriptorOf c.frame r 0 f (copyWidth r f) (copyHeight r f) (copyPayload r f) c.deadline slack)
        with frame := some c.frame } } } := by
  intro r slack opened
  have bytes (q : FrameRecord) (same : q = r) : descriptor c.frame q (copyTail .deadline q f c.deadline slack)
      = descriptorOf c.frame r 0 f (copyWidth r f) (copyHeight r f) (copyPayload r f) c.deadline slack := by
    rw [same, copyTail, descriptor_eq]
    rfl
  have record : frameOf c.frame opened = r := by
    rw [frameOf_openedOn_same, frameOf_setFrame_same]
    rfl
  rw [openDeadline, reportOpening_eq]
  change sendSegment (frameOpen c.frame (frameOf c.frame opened)
    (copyTail .deadline (frameOf c.frame opened) f c.deadline slack)) _ = _
  rw [record, frameOpen, bytes r rfl]
  rfl

theorem frameOf_openDeadline_same (c : Candidate) (f : Nat) (s : State) :
    frameOf c.frame (openDeadline c f s) = (frameOf c.frame s).picked := by
  rw [openDeadline_eq]
  refine (frameOf_openedOn_same c.frame _).trans ?_
  rw [frameOf_setFrame_same]
  rfl

theorem frameOf_openDeadline_other {x : FrameId} {c : Candidate} (other : x ≠ c.frame) (f : Nat) (s : State) :
    frameOf x (openDeadline c f s) = frameOf x s := by
  rw [openDeadline_eq]
  exact (frameOf_openedOn_other other _).trans (frameOf_setFrame_other _ _ other)

theorem port_openDeadline (c : Candidate) (f : Nat) (s : State) : (openDeadline c f s).port = s.port := by
  rw [openDeadline_eq]
  rfl

/-- The order of the claims is strict in the order of the walk. -/
theorem not_before_of_picksBefore {c d : Candidate} (own : candidate? s c.frame = some c) (other : candidate? s d.frame = some d)
    (earlier : picksBefore d.frame d.deadline c.frame c.deadline s) : ¬ c.before d = true := by
  obtain ⟨-, -, place, station⟩ := candidate?_eq_some_iff.mp own
  obtain ⟨-, -, place', station'⟩ := candidate?_eq_some_iff.mp other
  rw [Candidate.before_iff]
  rw [picksBefore, place, place'] at earlier
  simp only [Option.toList_some, List.mem_singleton, exists_eq_left, Fin.lt_def, ← station, ← station'] at earlier
  omega

/-- The count and the flags of the line port after frames have been shed. -/
theorem shed_counts {ids : List FrameId} {t : State} (apart : ids.Nodup) (port : t.port = (shedOn ids s).port)
    (noted_ : ∀ id, (frameOf id t).shedNote = (decide (id ∈ ids) || (frameOf id s).shedNote)) :
    t.port.counts[(7 : Fin 14)].toNat = min 65535 (s.port.counts[(7 : Fin 14)].toNat
        + (List.finRange 1024).countP fun id : Fin 1024 => !(frameOf id s).shedNote && (frameOf id t).shedNote)
      ∧ (∀ k : Fin 14, k ≠ 7 → t.port.counts[k] = s.port.counts[k]) ∧ t.port.flags = s.port.flags := by
  have counted : ((List.finRange 1024).countP fun id : Fin 1024 => !(frameOf id s).shedNote && (frameOf id t).shedNote)
      = ids.countP fun id => !(frameOf id s).shedNote := by
    rw [← countP_finRange_mem apart]
    refine List.countP_congr fun id _ => ?_
    rw [noted_]
    cases (frameOf id s).shedNote <;> simp
  rw [counted, port]
  exact ⟨count_shedOn ids s, fun k other => Vector.getElem_set_ne (by decide) k.isLt fun same => other (Fin.ext same.symm), rfl⟩

theorem shedNote_shedOn (ids : List FrameId) (id : FrameId) (s : State) :
    (frameOf id (shedOn ids s)).shedNote = (decide (id ∈ ids) || (frameOf id s).shedNote) := by
  rw [frameOf_shedOn]
  by_cases member : id ∈ ids
  · simp [member, FrameRecord.passed]
  · simp [member]

end Sys2Proof.Machine

open Sys2Proof Sys2Proof.Machine Sys2Proof.Safety

/-- Settles O44: the pick by the order of the walk, and the frames shed before it. -/
theorem pickTakesTheFirstThatFits : Obligations.PickTakesTheFirstThatFits := by
  unfold Obligations.PickTakesTheFirstThatFits
  intro s t running up replies reports closed step
  rw [exec_segmentBoundary_of_noEnding running, chooseSegment_of_noEnding up running,
    chooseQueued_of_none replies reports] at step
  replace step : chooseDeadline s = t := Host.Outcome.next.inj step
  have order := nodup_walkOrder s
  have sorted := pairwise_walkOrder s
  have own {c : Candidate} (member : c ∈ walkOrder s) := (mem_walkOrder_iff closed).mp member
  rcases walk_cases (walkOrder s) s with ⟨misfit, nothing⟩ | ⟨before, c, after, f, list, misfit, found, picked⟩
  · rw [foldl_shedFrame order] at nothing
    have result : t = chooseRegion (shedOn ((walkOrder s).map Candidate.frame) s) := by
      rw [← step]
      simp only [chooseDeadline, closed, nothing]
    have same := SamePick.chooseRegion (shedOn ((walkOrder s).map Candidate.frame) s)
    rw [← result] at same
    refine ⟨fun x open_ => ?_, fun _ id l pending deadline => ?_, ?_⟩
    · rw [same.deadline, uplink_shedOn, closed] at open_
      exact absurd open_.symm (Option.some_ne_none x)
    · have listed : id ∈ (walkOrder s).map Candidate.frame := (mem_frames_walkOrder_iff closed).mpr ⟨pending, l, deadline⟩
      obtain ⟨d, member, rfl⟩ := List.mem_map.mp listed
      have deadline' := (candidate?_eq_some_iff.mp (own member).2).2.1
      rw [deadline] at deadline'
      cases deadline'
      rw [same.shed, same.shedNote, frameOf_shedOn, if_pos listed]
      exact ⟨fittingFactor_eq_none_iff.mp (misfit d member), rfl, rfl⟩
    · exact shed_counts order same.port fun id => (same.shedNote id).trans (shedNote_shedOn _ id s)
  · have apart : ((before.map Candidate.frame) ++ c.frame :: after.map Candidate.frame).Nodup := by
      rw [list, List.map_append, List.map_cons] at order
      exact order
    have distinct : (before.map Candidate.frame).Nodup := (List.nodup_append.mp apart).1
    have away : c.frame ∉ before.map Candidate.frame := fun member =>
      (List.nodup_append.mp apart).2.2 c.frame member c.frame List.mem_cons_self rfl
    rw [foldl_shedFrame distinct] at picked
    have result : t = openDeadline c f (shedOn (before.map Candidate.frame) s) := by
      rw [← step]
      simp only [chooseDeadline, closed, picked]
    have member : c ∈ walkOrder s := list ▸ List.mem_append_right before List.mem_cons_self
    have kept : frameOf c.frame (shedOn (before.map Candidate.frame) s) = frameOf c.frame s := by
      rw [frameOf_shedOn, if_neg away]
    have noted_ (id : FrameId) : (frameOf id t).shedNote
      = (decide (id ∈ before.map Candidate.frame) || (frameOf id s).shedNote) := by
      rw [← shedNote_shedOn, result]
      by_cases same : id = c.frame
      · rw [same, frameOf_openDeadline_same, FrameRecord.shedNote_picked]
      · rw [frameOf_openDeadline_other same]
    have counts := shed_counts distinct (by rw [result, port_openDeadline]) noted_
    have record (id : FrameId) := frameOf_shedOn (before.map Candidate.frame) id s
    have settings := settings_shedOn (before.map Candidate.frame) s
    generalize shedOn (before.map Candidate.frame) s = u at result kept record settings
    refine ⟨fun x open_ => ?_, fun none_ => ?_, counts⟩
    · obtain ⟨pending, candidate⟩ := own member
      obtain ⟨fit, finest⟩ := fittingFactor_eq_some found
      rw [result, openDeadline_eq] at open_
      cases open_
      intro r
      refine ⟨pending, (candidate?_eq_some_iff.mp candidate).2.1, fit, finest, ?_, rfl, rfl, rfl, ?_, ?_,
        fun id l other pending' deadline => ?_⟩
      · rw [kept, settings]
        rfl
      · rw [result, openDeadline_eq, kept, settings]
        rfl
      · rw [result, frameOf_openDeadline_same, kept]
        rfl
      · replace other : id ≠ c.frame := other
        have listed := (mem_frames_walkOrder_iff closed).mpr ⟨pending', l, deadline⟩
        obtain ⟨d, inside, rfl⟩ := List.mem_map.mp listed
        obtain ⟨-, candidate'⟩ := own inside
        have deadline' := (candidate?_eq_some_iff.mp candidate').2.1
        rw [deadline] at deadline'
        cases deadline'
        rw [result, frameOf_openDeadline_other other]
        rw [list] at inside sorted
        obtain ⟨-, behind, ahead⟩ := List.pairwise_append.mp sorted
        rcases List.mem_append.mp inside with earlier | later
        · refine ⟨fun _ => ⟨fittingFactor_eq_none_iff.mp (misfit d earlier),
            (record d.frame).trans (if_pos (List.mem_map_of_mem earlier))⟩, fun late => ?_⟩
          exact absurd (ahead d earlier c List.mem_cons_self) (not_before_of_picksBefore candidate' candidate late)
        · have rest : d ∈ after := (List.mem_cons.mp later).resolve_left fun same => other (congrArg Candidate.frame same)
          refine ⟨fun early => ?_, fun _ => (record d.frame).trans (if_neg fun member' => ?_)⟩
          · exact absurd (List.rel_of_pairwise_cons behind rest) (not_before_of_picksBefore candidate candidate' early)
          · exact (List.nodup_append.mp apart).2.2 d.frame member' d.frame
              (List.mem_cons_of_mem _ (List.mem_map_of_mem rest)) rfl
    · rw [result, openDeadline_eq] at none_
      exact absurd none_ (Option.some_ne_none _)

/-- Settles O45: regions, then background copies, then IDLE. -/
theorem regionsThenBackgroundThenIdle : Obligations.RegionsThenBackgroundThenIdle := by
  unfold Obligations.RegionsThenBackgroundThenIdle
  rintro s ⟨running, up, replies, reports, closed, misfit⟩ u
  have turn : exec .segmentBoundary s = .next (chooseRegion u) := by
    rw [exec_segmentBoundary_of_noEnding running, chooseSegment_of_noEnding up running, chooseQueued_of_none replies reports,
      chooseDeadline_of_misfit closed misfit]
  have uplink : u.uplink = s.uplink := allShed_uplink s
  have linkUp : u.link.state = .up := (congrArg FibreLink.state (allShed_link s)).trans up
  rw [turn, ← uplink]
  clear_value u
  refine ⟨fun x open_ => ?region, fun e rest none_ queued => ?queued, fun x none_ empty open_ => ?background,
    fun id rest none_ empty closed' order => ?order, fun none_ empty closed' order => ?idle⟩
  case region =>
    intro p
    refine ⟨dataSegment .regionData x.frame x.number p x.offset (regionByte (frameOf x.frame u) u.store.mem x.rect x.factor), ?_,
      carries_dataSegment _ _ _ _ _ _⟩
    have next : chooseRegion u = sendRegion x u := by simp only [chooseRegion, open_]
    rw [next]
    rfl
  case queued =>
    intro r held opened
    have next : chooseRegion u = openRegion e rest u := by simp only [chooseRegion, none_, queued]
    rw [next, openRegion]
    refine ⟨fun holds => ?_, fun fails => ?_⟩
    · have bytes (q : FrameRecord) (same : q = { r with openTx := r.openTx + 1 }) : descriptor e.frame q (regionTail q e)
          = descriptorOf e.frame r 2 e.factor (regionWidth e.rect e.factor) (regionHeight e.rect e.factor)
              (regionPayload r e.rect e.factor) 0 0 := by
        rw [same, regionTail, descriptor_eq]
        rfl
      rw [if_pos holds, reportOpening_eq]
      dsimp only
      rw [bytes _ (frameOf_openedOn_same e.frame { u with uplink.regions := rest })]
      simp only [Rect.bytes, List.append_assoc]
      rfl
    · rw [if_neg fails]
      rfl
  case background =>
    intro p
    refine ⟨dataSegment .frameData x.frame 0 p x.offset (copyByte (frameOf x.frame u) u.store.mem 1), ?_,
      carries_dataSegment _ _ _ _ _ _⟩
    have next : chooseRegion u = sendBackground x u := by simp only [chooseRegion, none_, empty, chooseBackground, open_]
    rw [next]
    rfl
  case order =>
    intro r opened
    have first : nextBackground u = some id := by
      rw [nextBackground, order, uplink, closed]
      rfl
    have next : chooseRegion u = openBackground id u :=
      by simp only [chooseRegion, none_, empty, chooseBackground, closed', first]
    have bytes (q : FrameRecord) (same : q = { r with openTx := r.openTx + 1 }) : descriptor id q (copyTail .background q 1 0 0)
        = descriptorOf id r 1 1 r.width r.height (copyPayload r 1) 0 0 := by
      have width : copyWidth r 1 = r.width := Nat.div_one _
      have height : copyHeight r 1 = r.height := Nat.div_one _
      rw [same, copyTail, descriptor_eq]
      show descriptorOf id r 1 1 (copyWidth r 1) (copyHeight r 1) (copyPayload r 1) 0 0 = _
      rw [width, height]
    rw [next, openBackground, reportOpening_eq]
    dsimp only
    rw [frameOpen, bytes _ (frameOf_openedOn_same id u)]
    rfl
  case idle =>
    have none' : nextBackground u = none := by
      rw [nextBackground, order]
      rfl
    have next : chooseRegion u = sendIdle u := by simp only [chooseRegion, none_, empty, chooseBackground, closed', none']
    rw [next, sendIdle, linkUp]
    rfl
end

section
/-! KEEP and RELEASE from either master: O47 (7.5, 10.7). -/

namespace Sys2Proof.Machine

open Sys2Proof.Safety

variable {s : State}

/-! ## What a master's own unit does around an answer -/

/-- A change of the state that the Frame Store's answers do not see: store and queue are as before, and a record is replaced
behind it as before it. -/
structure MarkBlind (L : State → State) : Prop where
  store : ∀ s, (L s).store = s.store
  queue : ∀ s, (L s).queue = s.queue
  frame : ∀ id r s, withFrame id r (L s) = L (withFrame id r s)

theorem MarkBlind.heard : MarkBlind heard :=
  ⟨fun _ => rfl, fun _ => rfl, fun _ _ _ => rfl⟩

theorem MarkBlind.sendZeros (n : Nat) : MarkBlind (sendZeros n) :=
  ⟨fun _ => rfl, fun _ => rfl, fun _ _ _ => rfl⟩

section
variable {L : State → State} (blind : MarkBlind L)
include blind

theorem MarkBlind.frameOf (id : FrameId) (s : State) : frameOf id (L s) = Machine.frameOf id s := by
  rw [Machine.frameOf, blind.store]
  rfl

theorem MarkBlind.address (mode : Byte) (n : Word16) (s : State) : address mode n (L s) = Machine.address mode n s := by
  rw [Machine.address, Machine.address, blind.queue]

theorem MarkBlind.markFrame (m : KeepMark) (v : Bool) (id : FrameId) (s : State) :
    markFrame m v id (L s) = L (Machine.markFrame m v id s) := by
  rw [Machine.markFrame, Machine.markFrame, updFrame_eq, updFrame_eq, blind.frameOf, blind.frame]

theorem MarkBlind.itemFrames (i : Item) (s : State) : itemFrames i (L s) = Machine.itemFrames i s := by
  simp only [Machine.itemFrames, references, blind.frameOf]

theorem MarkBlind.foldl_markFrame (m : KeepMark) (v : Bool) (l : List (Station × FrameId)) (s : State) :
    l.foldl (fun t p => Machine.markFrame m v p.2 t) (L s) = L (l.foldl (fun t p => Machine.markFrame m v p.2 t) s) := by
  induction l generalizing s with
  | nil => rfl
  | cons p l ih => rw [List.foldl_cons, List.foldl_cons, blind.markFrame, ih]

theorem MarkBlind.answerMark (m : KeepMark) (v : Bool) (target : Byte) (n tag : Word16) (s : State) :
    answerMark m v target n tag (L s)
      = (L (Machine.answerMark m v target n tag s).1, (Machine.answerMark m v target n tag s).2) := by
  rw [Machine.answerMark, Machine.answerMark, blind.address]
  split
  · unfold answerMarkFrame
    split
    · rfl
    · simp only [blind.frameOf, blind.markFrame]
      split <;> rfl
  · split
    · split
      · rfl
      · rfl
      · have entries : itemMarkEntry m v (L s) = itemMarkEntry m v s := by
          funext p
          rw [itemMarkEntry, itemMarkEntry, blind.frameOf]
        simp only [answerMarkItem, blind.itemFrames, blind.foldl_markFrame, entries]
    · rfl

end

/-! ## The answers of either master -/

/-- The mark of a master: K0 is the office's, K1 the line controller's (R113, R171). -/
def markOf (office : Bool) : KeepMark :=
  if office then .k0 else .k1

/-- KEEP or RELEASE from either master. -/
def markRequest (office keep : Bool) (number target : Byte) (n tag : Word16) : Instr :=
  if keep then .keep (if office then .office number else .lineController) target n tag
  else .release (if office then .office number else .lineController) target n tag

/-- An answer to KEEP or RELEASE as it leaves either master's unit. -/
def markAnswered (office keep : Bool) (number : Byte) (result : Result) (body : List Byte) (u : State) : State :=
  if office then replied { kind := if keep then 2 else 3, number := number, result := result, body := body } u
  else taken 7 ([if keep then 12 else 13, result.code] ++ body) u

theorem exec_markRequest_of_answer {office keep : Bool} {number target : Byte} {n tag : Word16} {u : State} {result : Result}
    {body : List Byte} (ready : if office then s.link.state = .up ∧ noPartial s else busy s = false)
    (answer : answerMark (markOf office) keep target n tag s = (u, result, body)) :
    exec (markRequest office keep number target n tag) s = .next (markAnswered office keep number result body u) := by
  have behind {L : State → State} (blind : MarkBlind L) :
    answerMark (markOf office) keep target n tag (L s) = (L u, result, body) := by
    rw [blind.answerMark, answer]
  cases office with
  | true =>
    obtain ⟨up, whole⟩ : s.link.state = .up ∧ noPartial s := ready
    cases keep with
    | true => exact congrArg Host.Outcome.next (goodBlock_beginBlock_of_answer (number := number) up whole (behind .heard))
    | false => exact congrArg Host.Outcome.next (goodBlock_beginBlock_of_answer (number := number) up whole (behind .heard))
  | false =>
    have free : busy s = false := ready
    cases keep with
    | true => exact congrArg Host.Outcome.next (takeRequest_of_answer (r := .keep target n tag) free rfl (behind (.sendZeros 7)))
    | false => exact congrArg Host.Outcome.next (takeRequest_of_answer (r := .release target n tag) free rfl (behind (.sendZeros 7)))

/-! ## The owner's answer (R113, R114) -/

theorem markFrame_eq (m : KeepMark) (v : Bool) (id : FrameId) (s : State) :
    markFrame m v id s = withFrame id ((frameOf id s).withMark m v) s :=
  updFrame_eq s id _

theorem withMark_eq_self_iff {m : KeepMark} {v : Bool} {r : FrameRecord} : r.withMark m v = r ↔ r.marked m = v := by
  cases m <;> cases r <;> simp [FrameRecord.withMark, FrameRecord.marked, eq_comm]

/-- The byte that says whether a mark has changed. -/
theorem flagByte_marked (m : KeepMark) (v : Bool) (r : FrameRecord) :
    flagByte (r.marked m != v) = if r.withMark m v = r then 0 else 1 := by
  by_cases same : r.marked m = v
  · rw [if_pos (withMark_eq_self_iff.mpr same), same, bne_self_eq_false]
    rfl
  · rw [if_neg fun h => same (withMark_eq_self_iff.mp h), (bne_iff_ne).mpr same]
    rfl

theorem answerMarkFrame_of_invalid {m : KeepMark} {v : Bool} {n tag : Word16} (bad : 1023 < n.toNat ∨ 1023 < tag.toNat) :
    answerMark m v 0 n tag s = (s, .invalid, []) := by
  rw [answerMark, if_pos rfl, answerMarkFrame, if_pos bad]

section
variable {m : KeepMark} {v : Bool} {n tag : Word16} {id : FrameId} (named : id.val = n.toNat) (inRange : tag.toNat ≤ 1023)
include named inRange

theorem answerMarkFrame_of_missing (missing : (frameOf id s).state = .free ∨ (frameOf id s).tag.val ≠ tag.toNat) :
    answerMark m v 0 n tag s = (s, .noFrame, []) := by
  have own : Fin.ofNat 1024 n.toNat = id := Fin.ext (by rw [Fin.val_ofNat, ← named, Nat.mod_eq_of_lt id.isLt])
  have small : ¬ (1023 < n.toNat ∨ 1023 < tag.toNat) := by have := id.isLt; omega
  rw [answerMark, if_pos rfl, answerMarkFrame, if_neg small]
  simp only [own]
  rw [if_pos missing]

theorem answerMarkFrame_of_found (used : (frameOf id s).state ≠ .free) (tagged : (frameOf id s).tag.val = tag.toNat) :
    answerMark m v 0 n tag s = (withFrame id ((frameOf id s).withMark m v) s, .ok,
      frameMarkBody 0 id ((frameOf id s).marked m != v) (frameOf id s) (settled ((frameOf id s).withMark m v))) := by
  have own : Fin.ofNat 1024 n.toNat = id := Fin.ext (by rw [Fin.val_ofNat, ← named, Nat.mod_eq_of_lt id.isLt])
  have small : ¬ (1023 < n.toNat ∨ 1023 < tag.toNat) := by have := id.isLt; omega
  have found : ¬ ((frameOf id s).state = .free ∨ (frameOf id s).tag.val ≠ tag.toNat) := fun h => h.elim used fun h => h tagged
  rw [answerMark, if_pos rfl, answerMarkFrame, if_neg small]
  simp only [own]
  rw [if_neg found, markFrame_eq, frameOf_withFrame_same]

end

/-- The request names an item only by tag or depth (R192). -/
theorem answerMark_of_bad_target {m : KeepMark} {v : Bool} {target : Byte} {n tag : Word16} (bad : 3 ≤ target.toNat) :
    answerMark m v target n tag s = (s, .invalid, []) := by
  have other (k : Byte) (small : k.toNat < 3) : target ≠ k := fun same => by
    rw [same] at bad
    omega
  rw [answerMark, if_neg (other 0 (by decide)), if_neg fun h => h.elim (other 1 (by decide)) (other 2 (by decide))]

section
variable {m : KeepMark} {v : Bool} {target : Byte} {n tag : Word16} (named : target = 1 ∨ target = 2)
include named

theorem ne_zero_of_named : target ≠ 0 := by
  rcases named with rfl | rfl <;> decide

theorem answerMark_of_outOfRange (out : address (target - 1) n s = .outOfRange) :
    answerMark m v target n tag s = (s, .invalid, []) := by
  simp only [answerMark, if_neg (ne_zero_of_named named), if_pos named, out]

theorem answerMark_of_noItem (none_ : address (target - 1) n s = .noItem) : answerMark m v target n tag s = (s, .noItem, []) := by
  simp only [answerMark, if_neg (ne_zero_of_named named), if_pos named, none_]

theorem answerMark_of_found {d : Nat} {i : Item} (found : address (target - 1) n s = .found d i) :
    answerMark m v target n tag s = answerMarkItem m v target i s := by
  simp only [answerMark, if_neg (ne_zero_of_named named), if_pos named, found]

end

/-- KEEP or RELEASE of an item's frames, record by record (R114, 12.8). -/
theorem answerMarkItem_eq (m : KeepMark) (v : Bool) (target : Byte) (i : Item) (s : State) :
    let records : List (Fin 8 × FrameId) := (List.finRange 8).filterMap fun st => (references i st s).map fun id => (st, id)
    answerMarkItem m v target i s = (records.foldl (fun u x => withFrame x.2 ((frameOf x.2 u).withMark m v) u) s, .ok,
      [target] ++ bytes2 i.tag.val ++ [BitVec.ofNat 8 records.length]
        ++ records.flatMap fun x => [BitVec.ofNat 8 x.1.val] ++ bytes2 x.2.val
          ++ [if (frameOf x.2 s).withMark m v = frameOf x.2 s then 0 else 1]) := by
  have entry (p : Station × FrameId) : itemMarkEntry m v s p = [BitVec.ofNat 8 p.1.val] ++ bytes2 p.2.val
      ++ [if (frameOf p.2 s).withMark m v = frameOf p.2 s then 0 else 1] := by
    rw [itemMarkEntry, flagByte_marked]
    rfl
  intro records
  have list : itemFrames i s = records := rfl
  rw [answerMarkItem, list]
  simp only [markFrame_eq, byte1, funext entry]

end Sys2Proof.Machine

open Sys2Proof Sys2Proof.Machine Sys2Proof.Safety

/-- Settles O47: KEEP and RELEASE of a frame and of an item, from either master. -/
theorem keepAndReleaseCases : Obligations.KeepAndReleaseCases := by
  unfold Obligations.KeepAndReleaseCases
  refine ⟨fun office keep number frame tag s ready => ?frame, fun office keep number target n tag s ready => ?item⟩
  case frame =>
    intro c answer
    have reply {u : State} {result : Result} {body : List Byte}
        (own : answerMark (markOf office) keep 0 frame tag s = (u, result, body)) : answer result body u :=
      exec_markRequest_of_answer ready own
    refine ⟨fun bad => reply (answerMarkFrame_of_invalid bad), fun id named inRange =>
      ⟨fun missing => reply (answerMarkFrame_of_missing named inRange missing), fun used tagged => ?_⟩⟩
    have own := answerMarkFrame_of_found (m := markOf office) (v := keep) named inRange used tagged
    rw [frameMarkBody, flagByte_marked] at own
    cases office <;> exact reply own
  case item =>
    intro c answer marked named
    have reply {u : State} {result : Result} {body : List Byte}
        (own : answerMark (markOf office) keep target n tag s = (u, result, body)) : answer result body u :=
      exec_markRequest_of_answer ready own
    refine ⟨fun bad => reply (bad.elim answerMark_of_bad_target fun out => answerMark_of_outOfRange out.1 out.2),
      fun byItem none_ => reply (answerMark_of_noItem byItem none_), fun d i byItem found => ?_⟩
    intro records
    have own := (answerMark_of_found (m := markOf office) (v := keep) (tag := tag) byItem found).trans (answerMarkItem_eq _ _ _ _ _)
    cases office <;> exact reply own
end

section
/-! What leaves records, triggers and gates alone: the Frame Store, the uplink, the link and most of the line port (O9). -/

namespace Sys2Proof.Machine

open Sys2Proof.Safety

/-- Records, triggers and both gates are as they were. -/
structure Untouched (s t : State) : Prop where
  queue : t.queue = s.queue
  trig : t.trig = s.trig
  reject : t.gates.reject = s.gates.reject
  rework : t.gates.rework = s.gates.rework

theorem Untouched.refl (s : State) : Untouched s s :=
  ⟨rfl, rfl, rfl, rfl⟩

theorem Untouched.trans {s t u : State} (h : Untouched s t) (g : Untouched t u) : Untouched s u :=
  ⟨g.queue.trans h.queue, g.trig.trans h.trig, g.reject.trans h.reject, g.rework.trans h.rework⟩

theorem Untouched.symm {s t : State} (h : Untouched s t) : Untouched t s :=
  ⟨h.queue.symm, h.trig.symm, h.reject.symm, h.rework.symm⟩

theorem Untouched.foldl {α : Type} {f : State → α → State} (each : ∀ t a, Untouched t (f t a)) (l : List α) (s : State) :
    Untouched s (l.foldl f s) :=
  List.foldlRecOn (motive := Untouched s) l f (.refl s) fun _ h a _ => h.trans (each _ a)

/-- What three units' equations say. -/
theorem Untouched.of_units {s t : State} (queue : t.queue = s.queue := by simp) (trig : t.trig = s.trig := by simp)
    (gates : t.gates = s.gates := by simp) : Untouched s t :=
  ⟨queue, trig, congrArg GateUnit.reject gates, congrArg GateUnit.rework gates⟩

variable (s : State)

/-! ## Frame Store and reports -/

theorem Untouched.raise (e : Event) : Untouched s (raise e s) := .of_units

theorem Untouched.bump (c : Count) : Untouched s (bump c s) := .of_units

theorem Untouched.stationFault : Untouched s (stationFault s) := .of_units

theorem Untouched.setFrame (id : FrameId) (r : FrameRecord) : Untouched s (setFrame id r s) := .of_units

theorem Untouched.updFrame (id : FrameId) (f : FrameRecord → FrameRecord) : Untouched s (updFrame id f s) := .of_units

theorem Untouched.offerReport (r : Report) : Untouched s (offerReport r s) := .of_units

theorem Untouched.setParser (p : Station) (q : Parser) : Untouched s (setParser p q s) := .of_units

theorem Untouched.updPort (p : Station) (f : Port → Port) : Untouched s (updPort p f s) := .of_units

theorem Untouched.of_evictHead? {t : State} (h : evictHead? s = some t) : Untouched s t := by
  rw [evictHead?_eq] at h
  obtain ⟨id, -, rfl⟩ := Option.map_eq_some_iff.mp h
  exact .of_units

theorem Untouched.evictToWatermark (fuel : Nat) : Untouched s (evictToWatermark fuel s) := by
  induction fuel generalizing s with
  | zero => exact .refl s
  | succ fuel ih =>
    unfold Machine.evictToWatermark
    split
    · exact .refl s
    · cases evict : evictHead? s with
      | none => exact .refl s
      | some t => exact (Untouched.of_evictHead? s evict).trans (ih t)

theorem Untouched.takeBlock (id : FrameId) (b : Block) (rest : List Block) : Untouched s (takeBlock id b rest s) := by
  have shorter : Untouched s { s with store.freeList := rest } := ⟨rfl, rfl, rfl, rfl⟩
  exact (shorter.trans (.setFrame _ id _)).trans (.evictToWatermark _ _)

theorem Untouched.allocBlock (id : FrameId) : Untouched s (allocBlock id s).1 := by
  unfold Machine.allocBlock
  split
  · exact .takeBlock s _ _ _
  · split
    · exact .raise s _
    · rename_i t evict
      refine (Untouched.of_evictHead? s evict).trans ?_
      split
      · exact .takeBlock t _ _ _
      · exact .raise t _

theorem Untouched.of_takeRecord {id : FrameId} {t : State} (h : takeRecord s = some (id, t)) : Untouched s t := by
  unfold Machine.takeRecord at h
  split at h
  · cases h
    exact .refl s
  · split at h
    · cases h
    · rename_i u evict
      obtain ⟨k, -, e⟩ := Option.map_eq_some_iff.mp h
      cases e
      exact .of_evictHead? s evict

theorem Untouched.missingAtDecision (i : Item) : Untouched s (missingAtDecision i s) := by
  refine .foldl (fun t st => ?_) _ s
  split
  · exact .stationFault t
  · exact .refl t

theorem Untouched.noteDefault (d : Decision) : Untouched s (noteDefault d s) := by
  unfold Machine.noteDefault
  split
  · exact (Untouched.raise s _).trans (.bump _ _)
  · exact .refl s

theorem Untouched.framesAtDecision (i : Item) (kept : Bool) : Untouched s (framesAtDecision i kept s) := by
  refine .foldl (fun t st => ?_) _ s
  split
  · exact .updFrame t _ _
  · exact .refl t

theorem Untouched.framesAtVoid (i : Item) : Untouched s (framesAtVoid i s) := by
  refine .foldl (fun t st => ?_) _ s
  split
  · exact Untouched.trans (t := markAbort _ t) ⟨rfl, rfl, rfl, rfl⟩ (.updFrame _ _ _)
  · exact .refl t

/-! ## Ports and the write path (chapter 6) -/

theorem Untouched.settleFifo (p : Station) : Untouched s (settleFifo p s) := by
  unfold Machine.settleFifo
  split
  · split
    · exact (Untouched.updPort s p _).trans (.updFrame _ _ _)
    · exact .refl s
  · exact .refl s

theorem Untouched.placeMark (p : Station) : Untouched s (placeMark p s) :=
  (Untouched.updPort s p _).trans (.settleFifo _ p)

theorem Untouched.discardFrame (p : Station) (e : Event) (c : Count) : Untouched s (discardFrame p e c s) :=
  ((Untouched.raise s _).trans (.bump _ _)).trans (.setParser _ _ _)

theorem Untouched.headerFault : Untouched s (headerFault s) :=
  (Untouched.raise s _).trans (.bump _ _)

theorem Untouched.truncateFrame (p : Station) (f : FifoFrame) (rest : List FifoFrame) :
    Untouched s (truncateFrame p f rest s) := by
  have ended : Untouched s { s with ingest.grant := none } := ⟨rfl, rfl, rfl, rfl⟩
  exact ((ended.trans (.setFrame _ f.frame _)).trans (.updPort _ p _)).trans (.settleFifo _ p)

theorem Untouched.startGrant (p : Station) (f : FifoFrame) (rest : List FifoFrame) : Untouched s (startGrant p f rest s) := by
  unfold Machine.startGrant
  split
  · split
    · exact .truncateFrame s p f rest
    · have tried := Untouched.allocBlock s f.frame
      split
      · rename_i t alloc
        rw [alloc] at tried
        exact tried.trans ⟨rfl, rfl, rfl, rfl⟩
      · rename_i t alloc
        rw [alloc] at tried
        exact tried.trans (.truncateFrame t p f rest)
  · exact ⟨rfl, rfl, rfl, rfl⟩

theorem Untouched.grantPort (p : Station) : Untouched s (grantPort p s) := by
  unfold Machine.grantPort
  split
  · exact Untouched.trans (t := { s with ingest.pointer := p + 1 }) ⟨rfl, rfl, rfl, rfl⟩ (.startGrant _ p _ _)
  · exact .refl s

theorem Untouched.writeGranted (id : FrameId) (bs : List Byte) : Untouched s (writeGranted id bs s) := by
  unfold Machine.writeGranted
  split <;> exact ⟨rfl, rfl, rfl, rfl⟩

theorem Untouched.finishGrant (p : Station) : Untouched s (finishGrant p s) := by
  unfold Machine.finishGrant
  split
  · exact .refl s
  · rename_i f rest fifo
    refine (Untouched.writeGranted s f.frame (grantBytes f s)).trans ?_
    dsimp only
    split
    · exact (Untouched.updPort _ p _).trans (.updFrame _ _ _)
    · exact .updPort _ p _

/-! ## The uplink (chapter 8) -/

theorem Untouched.setUplink (u : Uplink) : Untouched s { s with uplink := u } :=
  ⟨rfl, rfl, rfl, rfl⟩

theorem Untouched.shedFrame (id : FrameId) : Untouched s (shedFrame id s) := by
  unfold Machine.shedFrame
  split
  · exact .setFrame s _ _
  · exact (Untouched.setFrame s _ _).trans (.bump _ _)

theorem Untouched.walk (l : List Candidate) : Untouched s (walk l s).1 := by
  induction l generalizing s with
  | nil => exact .refl s
  | cons c rest ih =>
    unfold Machine.walk
    split
    · exact .refl s
    · exact (Untouched.shedFrame s _).trans (ih _)

theorem Untouched.sendAbort (a : Abort) : Untouched s (sendAbort a s) := by
  unfold Machine.sendAbort
  dsimp only
  split
  · exact (Untouched.setUplink s _).trans (.updFrame _ _ _)
  · exact (Untouched.setUplink s _).trans (.updFrame _ _ _)
  all_goals exact ⟨rfl, rfl, rfl, rfl⟩

theorem Untouched.openDeadline (c : Candidate) (f : Nat) : Untouched s (openDeadline c f s) :=
  .of_units (by simp [Machine.openDeadline, reportOpening]) (by simp [Machine.openDeadline, reportOpening])
    (by simp [Machine.openDeadline, reportOpening])

theorem Untouched.openRegion (e : RegionEntry) (rest : List RegionEntry) : Untouched s (openRegion e rest s) := by
  unfold Machine.openRegion
  dsimp only
  split
  · exact .of_units (by simp [reportOpening]) (by simp [reportOpening]) (by simp [reportOpening])
  · exact .setUplink s _

theorem Untouched.openBackground (id : FrameId) : Untouched s (openBackground id s) :=
  .of_units (by simp [Machine.openBackground, reportOpening]) (by simp [Machine.openBackground, reportOpening])
    (by simp [Machine.openBackground, reportOpening])

theorem Untouched.endSegment : Untouched s (endSegment s) := by
  have deadline (t : State) : Untouched t (endDeadline t) := by
    unfold Machine.endDeadline
    split
    · split
      · exact (Untouched.setUplink t _).trans (.updFrame _ _ _)
      · exact .refl t
    · exact .refl t
  have region (t : State) : Untouched t (endRegion t) := by
    unfold Machine.endRegion
    split
    · split
      · exact (Untouched.setUplink t _).trans (.updFrame _ _ _)
      · exact .refl t
    · exact .refl t
  have background (t : State) : Untouched t (endBackground t) := by
    unfold Machine.endBackground
    split
    · split
      · exact (Untouched.setUplink t _).trans (.updFrame _ _ _)
      · exact .refl t
    · exact .refl t
  exact ((deadline s).trans (region _)).trans (background _)

theorem Untouched.chooseRegion : Untouched s (chooseRegion s) := by
  unfold Machine.chooseRegion
  split
  · exact .setUplink s _
  · split
    · exact .openRegion s _ _
    · unfold Machine.chooseBackground
      split
      · exact .setUplink s _
      · split
        · exact .openBackground s _
        · exact .setUplink s _

theorem Untouched.chooseDeadline : Untouched s (chooseDeadline s) := by
  unfold Machine.chooseDeadline
  split
  · exact .setUplink s _
  · have walked := Untouched.walk s (walkOrder s)
    split
    · rename_i t c f found
      rw [found] at walked
      exact walked.trans (.openDeadline t c f)
    · rename_i t found
      rw [found] at walked
      exact walked.trans (.chooseRegion t)

theorem Untouched.chooseSegment : Untouched s (chooseSegment s) := by
  unfold Machine.chooseSegment
  split
  · exact .setUplink s _
  · split
    · exact .sendAbort s _
    · unfold Machine.chooseQueued
      split
      · exact ⟨rfl, rfl, rfl, rfl⟩
      · split
        · exact .setUplink s _
        · exact .chooseDeadline s

/-! ## The link (chapter 10) -/

theorem Untouched.followLamp : Untouched s (followLamp s) := by
  rw [followLamp_eq]
  exact ⟨rfl, rfl, rfl, rfl⟩

theorem Untouched.offerReply (r : Reply) : Untouched s (offerReply r s) := .of_units

theorem Untouched.badBlock (r : Receiver) : Untouched s (badBlock r s) :=
  ⟨rfl, rfl, rfl, rfl⟩

theorem Untouched.blockStart : Untouched s (blockStart s) := by
  unfold Machine.blockStart
  split <;> exact ⟨rfl, rfl, rfl, rfl⟩

theorem Untouched.beginBlock : Untouched s (beginBlock s) := by
  unfold Machine.beginBlock
  split
  · exact .refl s
  all_goals exact .blockStart s

theorem Untouched.goodInAligning : Untouched s (goodInAligning s) := by
  unfold Machine.goodInAligning
  split
  · refine .trans ?_ (.followLamp _)
    exact ⟨rfl, rfl, rfl, rfl⟩
  · exact ⟨rfl, rfl, rfl, rfl⟩

theorem Untouched.linkDown : Untouched s (linkDown s) := by
  have closed : Untouched s (closeAllReported s) := by
    rw [closeAllReported_eq]
    exact .foldl (fun t id => .updFrame t id _) _ s
  refine .trans ?_ (.followLamp _)
  exact closed.trans ⟨rfl, rfl, rfl, rfl⟩

/-! ## Answers that change no record -/

theorem Untouched.answerMark (m : KeepMark) (v : Bool) (target : Byte) (n tag : Word16) :
    Untouched s (answerMark m v target n tag s).1 := by
  unfold Machine.answerMark Machine.answerMarkFrame
  split
  · split
    · exact .refl s
    · dsimp only
      split
      · exact .refl s
      · exact .updFrame s _ _
  · split
    · split
      · exact .refl s
      · exact .refl s
      · exact .foldl (fun t (p : Station × FrameId) => .updFrame t p.2 _) _ s
    · exact .refl s

theorem Untouched.answerFetchRegion (number : Byte) (frame tag x y w h : Word16) (factor : Byte) :
    Untouched s (answerFetchRegion number frame tag x y w h factor s).1 := by
  unfold Machine.answerFetchRegion
  dsimp only
  split_ifs <;> exact ⟨rfl, rfl, rfl, rfl⟩

theorem Untouched.answerItemView (mode : Byte) (n : Word16) : Untouched s (answerItemView mode n s).1 := by
  rw [answerItemView_fst]
  exact .refl s

theorem Untouched.updBank (n : BankName) (f : PlanBank → PlanBank) : Untouched s (updBank n f s) := .of_units

theorem Untouched.swapIfPending : Untouched s (swapIfPending s) := .of_units

theorem Untouched.answerCommitPlan (bank : Byte) : Untouched s (answerCommitPlan bank s).1 := by
  have valid (n : BankName) (v : Bool) : Untouched s (setValid n v s) := .updBank s n _
  obtain same | ⟨n, -, ⟨x, -, same⟩ | ⟨-, same | ⟨-, -, same⟩ | ⟨-, -, same⟩⟩⟩ := answerCommitPlan_cases s bank
  · exact (congrArg (Untouched s) same).mpr (.refl s)
  · exact (congrArg (Untouched s) same).mpr (valid n false)
  · exact (congrArg (Untouched s) same).mpr (valid n true)
  · exact (congrArg (Untouched s) same).mpr ((valid n true).trans ⟨rfl, rfl, rfl, rfl⟩)
  · exact (congrArg (Untouched s) same).mpr ((valid n true).trans ⟨rfl, rfl, rfl, rfl⟩)

end Sys2Proof.Machine
end

section
/-! The ownership of queued triggers, timeouts and fires, by station and by gate (O9): `QueuesOwned` taken apart, and the
rules for records that change and for lists that shrink or grow. -/

namespace Sys2Proof.Machine

open Sys2Proof.Safety

/-! ## The parts -/

/-- A record that a queued trigger of a station may be of (R71 to R73). -/
def Item.awaits (st : Station) (i : Item) : Prop :=
  (i.phase = .entered ∨ i.phase = .complete) ∧ i.stations[st] ≠ .triggered

/-- A record that a camera timeout of a station may be of (R76, R78). -/
def Item.expects (st : Station) (i : Item) : Prop :=
  i.phase = .entered ∧ i.stations[st] = .triggered

/-- A record that a fire of a gate may be of, by the fire's status (R146 to R150). -/
def Item.firesFor (g : Gate) (y : FireStatus) (i : Item) : Prop :=
  (∃ d ∈ i.decision.toList, d.action = gateAction g) ∧ i.phase = (if y = .on then .firing else .decided)

/-- What `QueuesOwned` says of one station, for the records of a queue. -/
structure StationOwned (l : List Item) (st : Station) (t : StationTriggers) : Prop where
  queued : ∀ e ∈ t.queue, ∃ i ∈ l, i.tag = e.tag ∧ i.bank = e.bank ∧ i.awaits st
  queuedOnce : (t.queue.map TriggerEntry.tag).Nodup
  queuedApart : ∀ tr ∈ t.slot.toList, ∀ e ∈ t.queue, ¬ (e.tag = tr.tag ∧ e.bank = tr.bank)
  queuedBehind : t.slot = none → t.queue = []
  timed : ∀ e ∈ t.timeouts, ∃ i ∈ l, i.tag = e.tag ∧ i.bank = e.bank ∧ i.expects st
  timedOnce : (t.timeouts.map TimeoutEntry.tag).Nodup

/-- What `QueuesOwned` says of one gate, for the records of a queue. -/
structure GateOwned (l : List Item) (g : Gate) (x : GateState) : Prop where
  fires : ∀ f ∈ x.fires, ∃ i ∈ l, i.tag = f.tag ∧ i.firesFor g f.status
  once : (x.fires.map Fire.tag).Nodup
  outputOn : x.output = .on ↔ ∃ f ∈ x.fires, f.status = .on
  outputRecovery : ∀ f ∈ x.fires, f.status = .held → x.output ≠ .idle ∧ x.output ≠ .on

/-- `QueuesOwned`, the turn of the tags apart: at most 128 records, their tags apart and each sound, and every station and gate
owned. -/
structure Owned (s : State) : Prop where
  count : s.queue.items.length ≤ 128
  apart : (s.queue.items.map Item.tag).Nodup
  items : ∀ i ∈ s.queue.items, ItemSound i
  stations : ∀ st : Station, StationOwned s.queue.items st s.trig[st]
  gates : ∀ g : Gate, GateOwned s.queue.items g (gateOf g s)

theorem queuesOwned_iff {s : State} : QueuesOwned s ↔ TagsInTurn s ∧ Owned s := by
  constructor
  · intro h
    exact ⟨h.tags, h.count, tags_nodup_of_inTurn h.tags h.count, h.items,
      fun st => ⟨h.queued st, h.queuedOnce st, h.queuedApart st, h.queuedBehind st, h.timed st, h.timedOnce st⟩,
      fun g => ⟨h.fires g, h.firesOnce g, h.outputOn g, h.outputRecovery g⟩⟩
  · rintro ⟨tags, h⟩
    exact
      { count := h.count
        tags := tags
        items := h.items
        queued := fun st => (h.stations st).queued
        queuedOnce := fun st => (h.stations st).queuedOnce
        queuedApart := fun st => (h.stations st).queuedApart
        queuedBehind := fun st => (h.stations st).queuedBehind
        timed := fun st => (h.stations st).timed
        timedOnce := fun st => (h.stations st).timedOnce
        fires := fun g => (h.gates g).fires
        firesOnce := fun g => (h.gates g).once
        outputOn := fun g => (h.gates g).outputOn
        outputRecovery := fun g => (h.gates g).outputRecovery }

section

variable {s t : State} {l : List Item} {st : Station} {g : Gate}

theorem Untouched.gateOf (h : Untouched s t) (g : Gate) : gateOf g t = Machine.gateOf g s := by
  cases g with
  | reject => exact h.reject
  | rework => exact h.rework

theorem Untouched.owned (h : Untouched s t) (owned : Owned s) : Owned t where
  count := h.queue ▸ owned.count
  apart := h.queue ▸ owned.apart
  items := h.queue ▸ owned.items
  stations st := by
    rw [h.queue, h.trig]
    exact owned.stations st
  gates g := by
    rw [h.queue, h.gateOf]
    exact owned.gates g

/-- Tags apart name one record. -/
theorem Owned.eq_of_tag (h : Owned s) {i j : Item} (one : i ∈ s.queue.items) (other : j ∈ s.queue.items) (same : i.tag = j.tag) :
    i = j :=
  List.inj_on_of_nodup_map h.apart one other same

/-! ## Records that change -/

/-- A record found by its tag is found after a change of the records that keeps tags and what was said of it. -/
theorem exists_map {k : Item → Item} {tag : Tag} {P : Item → Prop} (same : ∀ j, identity (k j) = identity j)
    (found : ∃ i ∈ l, i.tag = tag ∧ P i) (keeps : ∀ i ∈ l, i.tag = tag → P i → P (k i)) : ∃ i ∈ l.map k, i.tag = tag ∧ P i := by
  obtain ⟨i, member, own, holds⟩ := found
  have tag' : (k i).tag = i.tag := congrArg Prod.fst (same i)
  exact ⟨k i, List.mem_map_of_mem member, tag'.trans own, keeps i member own holds⟩

theorem StationOwned.map {t : StationTriggers} {k : Item → Item} (h : StationOwned l st t)
    (same : ∀ j, identity (k j) = identity j)
    (awaits : ∀ i ∈ l, ∀ e ∈ t.queue, e.tag = i.tag → i.bank = e.bank → i.awaits st → (k i).awaits st)
    (expects : ∀ i ∈ l, ∀ e ∈ t.timeouts, e.tag = i.tag → i.bank = e.bank → i.expects st → (k i).expects st) :
    StationOwned (l.map k) st t where
  queued e member := exists_map same (h.queued e member) fun i inside own holds =>
    ⟨(congrArg (fun x => x.2.1) (same i)).trans holds.1, awaits i inside e member own.symm holds.1 holds.2⟩
  queuedOnce := h.queuedOnce
  queuedApart := h.queuedApart
  queuedBehind := h.queuedBehind
  timed e member := exists_map same (h.timed e member) fun i inside own holds =>
    ⟨(congrArg (fun x => x.2.1) (same i)).trans holds.1, expects i inside e member own.symm holds.1 holds.2⟩
  timedOnce := h.timedOnce

theorem GateOwned.map {x : GateState} {k : Item → Item} (h : GateOwned l g x) (same : ∀ j, identity (k j) = identity j)
    (fires : ∀ i ∈ l, ∀ f ∈ x.fires, f.tag = i.tag → i.firesFor g f.status → (k i).firesFor g f.status) :
    GateOwned (l.map k) g x where
  fires f member := exists_map same (h.fires f member) fun i inside own holds => fires i inside f member own.symm holds
  once := h.once
  outputOn := h.outputOn
  outputRecovery := h.outputRecovery

/-- The records of a state changed one by one, with triggers and gates that are owned after it. -/
theorem Owned.of_map {k : Item → Item} (h : Owned s) (items : t.queue.items = s.queue.items.map k)
    (same : ∀ j, identity (k j) = identity j) (sound : ∀ i ∈ s.queue.items, ItemSound (k i))
    (stations : ∀ st : Station, StationOwned (s.queue.items.map k) st t.trig[st])
    (gates : ∀ g : Gate, GateOwned (s.queue.items.map k) g (gateOf g t)) : Owned t where
  count := by
    rw [items, List.length_map]
    exact h.count
  apart := by
    have tags : Item.tag ∘ k = Item.tag := funext fun j => congrArg Prod.fst (same j)
    rw [items, List.map_map, tags]
    exact h.apart
  items := by
    rw [items]
    intro j member
    obtain ⟨i, inside, rfl⟩ := List.mem_map.mp member
    exact sound i inside
  stations := items ▸ stations
  gates := items ▸ gates

/-! ## Lists that change -/

/-- Triggers and timeouts that leave a station. -/
theorem StationOwned.shrink {t u : StationTriggers} (h : StationOwned l st t) (queue : u.queue.Sublist t.queue)
    (timeouts : u.timeouts.Sublist t.timeouts) (slot : u.slot = t.slot) : StationOwned l st u where
  queued e member := h.queued e (queue.subset member)
  queuedOnce := h.queuedOnce.sublist (queue.map _)
  queuedApart tr inside e member := h.queuedApart tr (slot ▸ inside) e (queue.subset member)
  queuedBehind empty := List.sublist_nil.mp (h.queuedBehind (slot ▸ empty) ▸ queue)
  timed e member := h.timed e (timeouts.subset member)
  timedOnce := h.timedOnce.sublist (timeouts.map _)

/-- Fires that leave a gate, none of them ON. -/
theorem GateOwned.drop {x : GateState} (h : GateOwned l g x) (p : Fire → Bool)
    (off : ∀ f ∈ x.fires, f.status = .on → p f = true) :
    GateOwned l g { x with fires := x.fires.filter p } where
  fires f member := h.fires f (List.mem_filter.mp member).1
  once := h.once.sublist (List.filter_sublist.map _)
  outputOn := by
    rw [h.outputOn]
    constructor
    · rintro ⟨f, member, on⟩
      exact ⟨f, List.mem_filter.mpr ⟨member, off f member on⟩, on⟩
    · rintro ⟨f, member, on⟩
      exact ⟨f, (List.mem_filter.mp member).1, on⟩
  outputRecovery f member := h.outputRecovery f (List.mem_filter.mp member).1

/-- One station of the Trigger Unit changed, the others as they were. -/
theorem Owned.updTrig (h : Owned s) {f : StationTriggers → StationTriggers} (own : StationOwned s.queue.items st (f s.trig[st])) :
    Owned (updTrig st f s) where
  count := h.count
  apart := h.apart
  items := h.items
  stations k := by
    by_cases same : k = st
    · subst same
      rw [trig_updTrig_same]
      exact own
    · rw [trig_updTrig_other _ _ same]
      exact h.stations k
  gates := h.gates

/-- One gate changed, the other as it was. -/
theorem Owned.withGate (h : Owned s) {x : GateState} (own : GateOwned s.queue.items g x) : Owned (withGate g x s) where
  count := by rw [withGate_items]; exact h.count
  apart := by rw [withGate_items]; exact h.apart
  items := by rw [withGate_items]; exact h.items
  stations k := by
    rw [withGate_items]
    cases g <;> exact h.stations k
  gates k := by
    rw [withGate_items]
    by_cases same : k = g
    · subst same
      rw [gateOf_withGate_same]
      exact own
    · rw [gateOf_withGate_other _ _ same]
      exact h.gates k

/-- Whatever leaves the trigger queues and timeout lists of the stations. -/
theorem Owned.shrinkTriggers (h : Owned s) {f : StationTriggers → StationTriggers} (queue : ∀ t, (f t).queue.Sublist t.queue)
    (timeouts : ∀ t, (f t).timeouts.Sublist t.timeouts) (slot : ∀ t, (f t).slot = t.slot) :
    Owned { s with trig := onEach f s.trig } where
  count := h.count
  apart := h.apart
  items := h.items
  stations st := by
    have own : (onEach f s.trig)[st] = f s.trig[st] := by simp [onEach]
    show StationOwned _ st (onEach f s.trig)[st]
    rw [own]
    exact (h.stations st).shrink (queue _) (timeouts _) (slot _)
  gates := h.gates

/-! ## A station outcome that changes (R11) -/

theorem Item.identity_withStation (i : Item) (a : Station) (o : StationOutcome) : identity (i.withStation a o) = identity i := by
  rw [Item.withStation_eq]
  rfl

theorem Item.decision_withStation (i : Item) (a : Station) (o : StationOutcome) : (i.withStation a o).decision = i.decision := by
  rw [Item.withStation_eq]

/-- A record with a station unresolved after the change is in the phase it was in. -/
theorem Item.phase_withStation_of_unresolved {i : Item} {a b : Station} {o : StationOutcome}
    (unresolved : (i.withStation a o).stations[b].unresolved = true) : (i.withStation a o).phase = i.phase := by
  rw [Item.phase_withStation, if_neg]
  rintro ⟨-, none_⟩
  rw [unresolvedStations_eq_zero_iff.mp none_ b] at unresolved
  cases unresolved

theorem Item.phase_withStation_of_not_entered {i : Item} {a : Station} {o : StationOutcome} (phase : i.phase ≠ .entered) :
    (i.withStation a o).phase = i.phase := by
  rw [Item.phase_withStation, if_neg fun h => phase h.1]

theorem Item.awaits_withStation {i : Item} {a : Station} {o : StationOutcome} (h : i.awaits st)
    (other : st = a → o ≠ .triggered) :
    (i.withStation a o).awaits st := by
  obtain ⟨phase, station⟩ := h
  constructor
  · rw [Item.phase_withStation]
    split
    · exact .inr rfl
    · exact phase
  · rw [Item.stations_withStation]
    split
    next same => exact other same
    next => exact station

theorem Item.expects_withStation {i : Item} {a : Station} {o : StationOutcome} (h : i.expects st) (other : st ≠ a) :
    (i.withStation a o).expects st := by
  obtain ⟨phase, station⟩ := h
  have kept : (i.withStation a o).stations[st] = .triggered := by
    rw [Item.stations_withStation, if_neg other, station]
  refine ⟨?_, kept⟩
  rw [Item.phase_withStation_of_unresolved (b := st) (by rw [kept]; rfl), phase]

theorem Item.firesFor_withStation {i : Item} {a : Station} {o : StationOutcome} {y : FireStatus} (h : i.firesFor g y) :
    (i.withStation a o).firesFor g y := by
  obtain ⟨decided, phase⟩ := h
  refine ⟨by rwa [Item.decision_withStation], ?_⟩
  rw [Item.phase_withStation_of_not_entered, phase]
  rw [phase]
  split <;> decide

/-- A record stays sound where a station takes an outcome that is not WAITING, and TRIGGERED only in an ENTERED one (R11). -/
theorem ItemSound.withStation {i : Item} {a : Station} {o : StationOutcome} (h : ItemSound i) (waiting : o ≠ .waiting)
    (triggered : o = .triggered → i.phase = .entered) : ItemSound (i.withStation a o) where
  waiting st hit := by
    rw [Item.phase_withStation_of_unresolved (b := st) (by rw [hit]; rfl)]
    rw [Item.stations_withStation] at hit
    split at hit
    · exact absurd hit waiting
    · exact h.waiting st hit
  triggered st hit := by
    rw [Item.phase_withStation_of_unresolved (b := st) (by rw [hit]; rfl)]
    rw [Item.stations_withStation] at hit
    split at hit
    · exact .inl (triggered hit)
    · exact h.triggered st hit
  undecided phase := by
    rw [Item.decision_withStation]
    rw [Item.phase_withStation] at phase
    split at phase
    next entered => exact h.undecided (.inl entered.1)
    next => exact h.undecided phase
  decided phase := by
    rw [Item.decision_withStation]
    rw [Item.phase_withStation] at phase
    split at phase
    · exact absurd phase (by decide)
    · exact h.decided phase
  passed phase := by
    rw [Item.decision_withStation]
    rw [Item.phase_withStation] at phase
    split at phase
    · exact absurd phase (by decide)
    · exact h.passed phase

/-- A station outcome written on the record that carries a tag. -/
def stationWritten (tag : Tag) (a : Station) (o : StationOutcome) (j : Item) : Item :=
  if j.tag = tag then j.withStation a o else j

theorem identity_stationWritten (tag : Tag) (a : Station) (o : StationOutcome) (j : Item) :
    identity (stationWritten tag a o j) = identity j := by
  rw [stationWritten]
  split
  · exact Item.identity_withStation j a o
  · rfl

/-- The other stations, and the gates, are owned after a station outcome has changed. -/
theorem StationOwned.stationWritten {t : StationTriggers} {tag : Tag} {a : Station} {o : StationOutcome} (h : StationOwned l st t)
    (awaits : st = a → o = .triggered → ∀ i ∈ l, i.tag = tag → ∀ e ∈ t.queue, ¬ (e.tag = tag ∧ i.bank = e.bank))
    (untimed : st = a → ∀ e ∈ t.timeouts, e.tag ≠ tag) : StationOwned (l.map (stationWritten tag a o)) st t := by
  refine h.map (identity_stationWritten tag a o) (fun i member e inside same bank holds => ?_)
    fun i member e inside same bank holds => ?_
  · rw [Machine.stationWritten]
    split
    next own => exact Item.awaits_withStation holds fun here bad => awaits here bad i member own e inside ⟨same.trans own, bank⟩
    next => exact holds
  · rw [Machine.stationWritten]
    split
    next own => exact Item.expects_withStation holds fun here => untimed here e inside (same.trans own)
    next => exact holds

theorem GateOwned.stationWritten {x : GateState} {tag : Tag} {a : Station} {o : StationOutcome} (h : GateOwned l g x) :
    GateOwned (l.map (stationWritten tag a o)) g x := by
  refine h.map (identity_stationWritten tag a o) fun i _ f _ _ holds => ?_
  rw [Machine.stationWritten]
  split
  · exact Item.firesFor_withStation holds
  · exact holds

/-- A station takes an outcome that is neither WAITING nor TRIGGERED, and no timeout waits for it there. -/
theorem Owned.setStation {tag : Tag} {o : StationOutcome} (h : Owned s) (resolved : o.unresolved = false)
    (untimed : ∀ e ∈ s.trig[st].timeouts, e.tag ≠ tag) : Owned (setStation tag st o s) := by
  have waiting : o ≠ .waiting := fun same => by rw [same] at resolved; cases resolved
  have triggered : o ≠ .triggered := fun same => by rw [same] at resolved; cases resolved
  refine h.of_map (k := Machine.stationWritten tag st o) rfl (identity_stationWritten tag st o) (fun i member => ?_)
    (fun a => (h.stations a).stationWritten (fun _ bad => absurd bad triggered) fun here => here ▸ untimed)
    fun g => (h.gates g).stationWritten
  rw [Machine.stationWritten]
  split
  · exact ItemSound.withStation (h.items i member) waiting fun bad => absurd bad triggered
  · exact h.items i member

end

end Sys2Proof.Machine
end

section
/-! The ownership of queued triggers and timeouts through the Trigger Unit and Camera Ingest (O9). -/

namespace Sys2Proof.Machine

open Sys2Proof.Safety

section

variable {s t : State} {st : Station} {i j : Item}

/-- The record of a queued trigger is the one that carries its tag. -/
theorem Owned.awaits_of_queued (h : Owned s) (member : i ∈ s.queue.items) {e : TriggerEntry} (queued : e ∈ s.trig[st].queue)
    (own : e.tag = i.tag) : i.bank = e.bank ∧ i.awaits st := by
  obtain ⟨j, inside, tag, bank, awaits⟩ := (h.stations st).queued e queued
  obtain rfl := h.eq_of_tag inside member (tag.trans own)
  exact ⟨bank, awaits⟩

/-- The record of a timeout is the one that carries its tag. -/
theorem Owned.expects_of_timed (h : Owned s) (member : i ∈ s.queue.items) {e : TimeoutEntry} (timed : e ∈ s.trig[st].timeouts)
    (own : e.tag = i.tag) : i.bank = e.bank ∧ i.expects st := by
  obtain ⟨j, inside, tag, bank, expects⟩ := (h.stations st).timed e timed
  obtain rfl := h.eq_of_tag inside member (tag.trans own)
  exact ⟨bank, expects⟩

theorem Owned.untimed (h : Owned s) (member : i ∈ s.queue.items) (station : i.stations[st] ≠ .triggered) :
    ∀ e ∈ s.trig[st].timeouts, e.tag ≠ i.tag :=
  fun _ timed own => station (h.expects_of_timed member timed own).2.2

theorem mem_of_liveItem? {tag : Tag} {bank : BankName} (h : liveItem? tag bank s = some i) :
    i ∈ s.queue.items ∧ i.tag = tag ∧ i.bank = bank := by
  refine ⟨List.mem_of_find?_eq_some h, ?_⟩
  simpa using List.find?_some h

theorem Owned.stationFault (h : Owned s) : Owned (stationFault s) :=
  (Untouched.stationFault s).owned h

/-! ## Stations that fall due (R72, R73, R77) -/

/-- The station of an undecided record that holds neither a trigger nor the train is handed one. -/
theorem Owned.handTrigger (h : Owned s) (member : j ∈ s.queue.items) (tag : j.tag = i.tag) (bank : j.bank = i.bank)
    (waiting : j.stations[st] = .waiting) (apart : s.trig[st].holds i.tag i.bank = false) : Owned (handTrigger i st s) := by
  obtain ⟨unqueued, noTrain⟩ := holds_eq_false_iff.mp apart
  have own := h.stations st
  have untriggered : j.stations[st] ≠ .triggered := by rw [waiting]; decide
  unfold Machine.handTrigger
  split
  next empty =>
    refine h.updTrig { own with queuedApart := fun _ _ e inside => ?_, queuedBehind := fun bad => ?_ }
    · rw [own.queuedBehind empty] at inside
      cases inside
    · cases bad
  next running slot =>
    split
    · refine h.updTrig { own with queued := ?_, queuedOnce := ?_, queuedApart := ?_, queuedBehind := fun bad => ?_ }
      · intro e inside
        rcases List.mem_append.mp inside with old | new
        · exact own.queued e old
        · obtain rfl := List.mem_singleton.mp new
          exact ⟨j, member, tag, bank, .inl ((h.items j member).waiting st waiting), untriggered⟩
      · rw [List.map_append, List.nodup_append]
        refine ⟨own.queuedOnce, by simp, fun a old b new same => ?_⟩
        obtain ⟨e, queued, rfl⟩ := List.mem_map.mp old
        obtain rfl : b = i.tag := by simpa [triggerEntry] using new
        exact unqueued e queued ⟨same, (h.awaits_of_queued member queued (same.trans tag.symm)).1.symm.trans bank⟩
      · intro tr there e inside
        rcases List.mem_append.mp inside with old | new
        · exact own.queuedApart tr there e old
        · obtain rfl := List.mem_singleton.mp new
          exact fun same => noTrain tr (by simpa using there) ⟨same.1.symm, same.2.symm⟩
      · rw [slot] at bad
        cases bad
    · exact (h.setStation rfl (tag ▸ h.untimed member untriggered)).stationFault

/-- The record stands in the queue, and the stations of a list are as they were. -/
def Item.StandsIn (i : Item) (l : List Station) (s : State) : Prop :=
  ∃ j ∈ s.queue.items, j.tag = i.tag ∧ j.bank = i.bank ∧ ∀ st ∈ l, j.stations[st] = i.stations[st]

theorem Item.StandsIn.of_items {l : List Station} (h : i.StandsIn l s) (items : t.queue.items = s.queue.items) :
    i.StandsIn l t := by
  unfold Item.StandsIn
  rw [items]
  exact h

theorem Item.StandsIn.setStation {l : List Station} {o : StationOutcome} (h : i.StandsIn (st :: l) s) (apart : st ∉ l) :
    i.StandsIn l (Machine.setStation i.tag st o s) := by
  obtain ⟨j, member, tag, bank, stations⟩ := h
  refine ⟨j.withStation st o, List.mem_map.mpr ⟨j, member, if_pos tag⟩, (j.tag_withStation st o).trans tag,
    (j.bank_withStation st o).trans bank, fun k inside => ?_⟩
  rw [Item.stations_withStation, if_neg fun same : k = st => apart (same ▸ inside)]
  exact stations k (List.mem_cons_of_mem st inside)

theorem Item.StandsIn.examineStation {l : List Station} (h : i.StandsIn (st :: l) s) (apart : st ∉ l) :
    i.StandsIn l (Machine.examineStation i st s) := by
  have still : i.StandsIn l s := by
    obtain ⟨j, member, tag, bank, stations⟩ := h
    exact ⟨j, member, tag, bank, fun k inside => stations k (List.mem_cons_of_mem st inside)⟩
  unfold Machine.examineStation Machine.handTrigger startTrain
  split
  · split
    · split
      · exact still.of_items rfl
      · split
        · exact still.of_items rfl
        · exact (h.setStation apart).of_items rfl
    · exact h.setStation apart
    · exact still
  · exact still

theorem Owned.examineStation (h : Owned s) {l : List Station} (stands : i.StandsIn (st :: l) s) :
    Owned (examineStation i st s) := by
  obtain ⟨j, member, tag, bank, stations⟩ := stands
  have here := stations st List.mem_cons_self
  unfold Machine.examineStation
  split
  next due =>
    simp only [fallsDue, Bool.and_eq_true, beq_iff_eq, Bool.not_eq_true'] at due
    obtain ⟨⟨waiting, apart⟩, -⟩ := due
    split
    · exact h.handTrigger member tag bank (here.trans waiting) apart
    · exact h.setStation rfl (tag ▸ h.untimed member (by rw [here, waiting]; decide))
    · exact h
  next => exact h

theorem Owned.foldl_examineStation {l : List Station} (once : l.Nodup) (h : Owned s) (stands : i.StandsIn l s) :
    Owned (l.foldl (fun t st => Machine.examineStation i st t) s) := by
  induction l generalizing s with
  | nil => exact h
  | cons st l ih =>
    obtain ⟨apart, once⟩ := List.nodup_cons.mp once
    exact ih once (h.examineStation stands) (stands.examineStation apart)

theorem Owned.examineTriggers (h : Owned s) (tag : Tag) : Owned (examineTriggers tag s) := by
  unfold Machine.examineTriggers
  split
  next i found =>
    exact h.foldl_examineStation nodup_allStations ⟨i, (mem_of_itemOf? found).1, rfl, rfl, fun _ _ => rfl⟩
  next => exact h

theorem Owned.examineAllTriggers (h : Owned s) : Owned (examineAllTriggers s) :=
  List.foldlRecOn (motive := Owned) _ _ h fun _ h tag _ => h.examineTriggers tag

/-! ## Trains, timeouts and the end of RUN (R76, R78, R82) -/

theorem Owned.recordTrainEnd {tr : Train} (h : Owned s) (slot : s.trig[st].slot = some tr) : Owned (recordTrainEnd st tr s) := by
  unfold Machine.recordTrainEnd
  split
  next i live =>
    obtain ⟨member, tag, bank⟩ := mem_of_liveItem? live
    split
    next waiting =>
      have untimed := tag ▸ h.untimed member (by rw [waiting]; decide)
      have entered := (h.items i member).waiting st waiting
      have own := h.stations st
      have changed (a : Station) : StationOwned (s.queue.items.map (stationWritten tr.tag st .triggered)) a s.trig[a] :=
        (h.stations a).stationWritten
          (fun here _ k inside named e queued same =>
            own.queuedApart tr (slot ▸ List.mem_singleton_self tr) e (here ▸ queued) <| by
            obtain rfl := h.eq_of_tag inside member (named.trans tag.symm)
            exact ⟨same.1, same.2.symm.trans bank⟩)
          fun here => here ▸ untimed
      have trained : i.withStation st .triggered ∈ s.queue.items.map (stationWritten tr.tag st .triggered) :=
        List.mem_map.mpr ⟨i, member, if_pos tag⟩
      have triggered : (i.withStation st .triggered).stations[st] = .triggered := by
        rw [Item.stations_withStation, if_pos rfl]
      refine h.of_map (k := stationWritten tr.tag st .triggered) rfl (identity_stationWritten tr.tag st _) (fun k inside => ?_)
        (fun a => ?_) fun g => (h.gates g).stationWritten
      · rw [stationWritten]
        split
        next named =>
          obtain rfl := h.eq_of_tag inside member (named.trans tag.symm)
          exact ItemSound.withStation (h.items k member) (by decide) fun _ => entered
        next => exact h.items k inside
      · by_cases here : a = st
        · subst here
          rw [trig_updTrig_same]
          refine { changed a with timed := ?_, timedOnce := ?_ }
          · intro e inside
            rcases List.mem_append.mp inside with old | new
            · exact (changed a).timed e old
            · obtain rfl := List.mem_singleton.mp new
              refine ⟨_, trained, (i.tag_withStation a _).trans tag, (i.bank_withStation a _).trans bank, ?_, triggered⟩
              rw [Item.phase_withStation_of_unresolved (b := a) (by rw [triggered]; rfl), entered]
          · rw [List.map_append, List.nodup_append]
            refine ⟨own.timedOnce, by simp, fun b old c new same => ?_⟩
            obtain ⟨e, timed, rfl⟩ := List.mem_map.mp old
            exact untimed e timed (same.trans (List.mem_singleton.mp new))
        · rw [trig_updTrig_other _ _ here]
          exact changed a
    next => exact h
  next => exact h

theorem Owned.nextTrain (h : Owned s) : Owned (nextTrain st s) := by
  have own := h.stations st
  rw [nextTrain_eq]
  refine h.updTrig { own with queued := ?_, queuedOnce := ?_, queuedApart := ?_, queuedBehind := ?_ }
  · exact fun e inside => own.queued e (List.mem_of_mem_tail inside)
  · exact own.queuedOnce.sublist ((List.tail_sublist _).map _)
  · intro tr there e inside same
    have once := own.queuedOnce
    cases queue : s.trig[st].queue with
    | nil =>
      rw [queue] at inside
      cases inside
    | cons first rest =>
      rw [queue] at inside there once
      have started : tr = trainNow first s := by simpa using there
      have tag : e.tag = first.tag := same.1.trans (congrArg Train.tag started)
      exact (List.nodup_cons.mp once).1 (tag ▸ List.mem_map_of_mem inside)
  · intro empty
    cases queue : s.trig[st].queue with
    | nil => rfl
    | cons first rest =>
      rw [queue] at empty
      cases empty

theorem slot_of_trainDue {tr : Train} (due : trainDue st s = some tr) : s.trig[st].slot = some tr := by
  unfold trainDue at due
  split at due
  next slot =>
    split at due
    · rwa [← due]
    · cases due
  next => cases due

theorem Owned.execTrainEnd (h : Owned s) (done : execTrainEnd st s = .next t) : Owned t := by
  injection done with done
  subst done
  split
  next tr due => exact (h.recordTrainEnd (slot_of_trainDue due)).nextTrain
  next => exact h

theorem Owned.expireTimeout {e : TimeoutEntry} {rest : List TimeoutEntry} (h : Owned s)
    (first : s.trig[st].timeouts = e :: rest) :
    Owned (expireTimeout st e s) := by
  have removed : Owned (Machine.updTrig st (fun t => { t with timeouts := t.timeouts.tail }) s) :=
    h.updTrig ((h.stations st).shrink (.refl _) (List.tail_sublist _) rfl)
  unfold Machine.expireTimeout
  split
  next i live =>
    split
    next =>
      refine (removed.setStation rfl fun f later same => ?_).stationFault
      have once := (h.stations st).timedOnce
      rw [trig_updTrig_same] at later
      rw [first] at once later
      exact (List.nodup_cons.mp once).1 (same ▸ List.mem_map_of_mem later)
    next => exact removed
  next => exact removed

theorem timeouts_of_timeoutDue {e : TimeoutEntry} (due : timeoutDue st s = some e) : ∃ rest, s.trig[st].timeouts = e :: rest := by
  unfold timeoutDue at due
  split at due
  next first rest list =>
    split at due
    · injection due with same
      exact ⟨rest, same ▸ list⟩
    · cases due
  next => cases due

theorem Owned.execCameraTimeoutExpiry (h : Owned s) (done : execCameraTimeoutExpiry st s = .next t) : Owned t := by
  injection done with done
  subst done
  split
  next e due =>
    obtain ⟨rest, first⟩ := timeouts_of_timeoutDue due
    exact h.expireTimeout first
  next => exact h

theorem Owned.skipQueued (h : Owned s) (st : Station) : Owned (skipQueued st s) := by
  have emptied : Owned (Machine.updTrig st (fun t => { t with queue := [] }) s) :=
    h.updTrig ((h.stations st).shrink (List.nil_sublist _) (.refl _) rfl)
  refine (List.foldlRecOn (motive := fun u => Owned u ∧ u.trig[st].timeouts = s.trig[st].timeouts) _ _
    ⟨emptied, by rw [trig_updTrig_same]⟩ fun u done e queued => ?_).1
  obtain ⟨own, timeouts⟩ := done
  split
  next =>
    refine ⟨own.setStation rfl fun f timed same => ?_, timeouts⟩
    obtain ⟨i, member, tag, -, -, untriggered⟩ := (h.stations st).queued e queued
    exact h.untimed member untriggered f (timeouts ▸ timed) (same.trans tag.symm)
  next => exact ⟨own, timeouts⟩

theorem Owned.skipAllQueued (h : Owned s) : Owned (skipAllQueued s) :=
  List.foldlRecOn (motive := Owned) _ _ h fun _ h st _ => h.skipQueued st

/-! ## Camera Ingest (R88 to R95) -/

theorem updTrig_setStation (tag : Tag) (a : Station) (o : StationOutcome) (f : StationTriggers → StationTriggers) :
    Machine.updTrig st f (setStation tag a o s) = setStation tag a o (Machine.updTrig st f s) := rfl

theorem Owned.stationAtHeader {o : StationOutcome} (h : Owned s) (member : i ∈ s.queue.items) (resolved : o.unresolved = false) :
    Owned (stationAtHeader i st o s) := by
  unfold Machine.stationAtHeader
  simp only
  split
  next =>
    rw [updTrig_setStation]
    refine (h.updTrig ((h.stations st).shrink (.refl _) List.filter_sublist rfl)).setStation resolved fun e inside same => ?_
    rw [trig_updTrig_same] at inside
    obtain ⟨timed, kept⟩ := List.mem_filter.mp inside
    have bank := (h.expects_of_timed member timed same).1
    simp [same, bank] at kept
  next untriggered => exact h.setStation resolved (h.untimed member untriggered)

theorem Owned.dropFrame (h : Owned s) (member : i ∈ s.queue.items) : Owned (dropFrame i st s) :=
  (Untouched.setParser _ _ _).owned (((Untouched.raise s _).owned h).stationAtHeader member rfl)

theorem Owned.openFrameOn (h : Owned s) (member : i ∈ s.queue.items) (id : FrameId) (width height depth : Nat) :
    Owned (openFrameOn i st id width height depth s) := by
  refine (Untouched.updPort _ _ _).owned (h.stationAtHeader member ?_)
  unfold StationOutcome.atHeader
  split <;> rfl

theorem Owned.storeMatched (h : Owned s) (member : i ∈ s.queue.items) (word : Word24) (width height depth : Nat) :
    Owned (storeMatched i st word width height depth s) := by
  unfold Machine.storeMatched
  split
  next => exact h.dropFrame member
  next id u taken =>
    have used := (Untouched.of_takeRecord s taken).trans
      (Untouched.setFrame u id (fillingRecord word st width height depth (i.phase == .void)))
    have allocated := used.trans (.allocBlock _ id)
    split
    next v block =>
      rw [block] at allocated
      exact (allocated.owned h).openFrameOn (allocated.queue ▸ member) id width height depth
    next v block =>
      rw [block] at allocated
      have freed := allocated.trans (Untouched.setFrame v id FrameRecord.freed)
      exact (freed.owned h).dropFrame (freed.queue ▸ member)

theorem Owned.headerArrived (h : Owned s) (word : Word24) (width height depth : Nat) :
    Owned (headerArrived st word width height depth s) := by
  unfold Machine.headerArrived
  split
  · exact ((Untouched.headerFault s).trans (.setParser _ _ _)).owned h
  · split
    · exact (Untouched.discardFrame s _ _ _).owned h
    next i live =>
      split
      · exact (Untouched.discardFrame s _ _ _).owned h
      · exact h.storeMatched (mem_of_liveItem? live).1 word width height depth

theorem Owned.damageStation (h : Owned s) (f : OpenFrame) : Owned (damageStation f st s) := by
  unfold Machine.damageStation
  split
  next i live =>
    split
    next carries =>
      have untriggered : i.stations[st] ≠ .triggered := fun bad => by
        rw [bad] at carries
        cases carries
      have marked := (Untouched.raise _ .stationFault).owned
        (h.setStation (o := .damaged f.frame) rfl (h.untimed (mem_of_liveItem? live).1 untriggered))
      simp only
      split
      · exact (Untouched.bump _ _).owned marked
      · exact marked
    next => exact h
  next => exact h

theorem Owned.failFrame (h : Owned s) (f : OpenFrame) : Owned (failFrame f st s) :=
  ((Untouched.setFrame s _ _).owned h).damageStation f

theorem Owned.endWithoutTrailer (h : Owned s) (f : OpenFrame) : Owned (endWithoutTrailer f st s) :=
  (Untouched.placeMark _ _).owned (h.failFrame f)

theorem Owned.trailerArrived (h : Owned s) (f : OpenFrame) (rows : Word16) (crc : Word32) :
    Owned (trailerArrived f st rows crc s) := by
  refine ((Untouched.placeMark _ _).trans (.setParser _ _ _)).owned ?_
  split
  · exact h.failFrame f
  · exact h

theorem Owned.syncPattern (h : Owned s) (p : Station) : Owned (syncPattern p s) := by
  unfold Machine.syncPattern
  split
  · exact (Untouched.setParser s _ _).owned h
  · exact ((Untouched.headerFault s).trans (.setParser _ _ _)).owned h
  next f _ => exact (Untouched.setParser _ _ _).owned (h.endWithoutTrailer f)
  next f _ _ => exact (Untouched.setParser _ _ _).owned (h.endWithoutTrailer f)
  · exact (Untouched.setParser s _ _).owned h

theorem Owned.endPattern (h : Owned s) (p : Station) : Owned (endPattern p s) := by
  unfold Machine.endPattern
  split
  · exact h
  · exact ((Untouched.headerFault s).trans (.setParser _ _ _)).owned h
  · exact (Untouched.setParser s _ _).owned h
  next f _ _ => exact (Untouched.setParser _ _ _).owned (h.endWithoutTrailer f)
  · exact h

theorem Owned.headerByte (h : Owned s) (p : Station) (collected : List Byte) : Owned (headerByte p collected s) := by
  unfold Machine.headerByte
  split
  · exact (Untouched.setParser s _ _).owned h
  · exact h.headerArrived _ _ _ _

theorem Owned.trailerByte (h : Owned s) (f : OpenFrame) (p : Station) (collected : List Byte) :
    Owned (trailerByte f p collected s) := by
  unfold Machine.trailerByte
  split
  · exact (Untouched.setParser s _ _).owned h
  · exact h.trailerArrived f _ _

theorem Owned.overflow (h : Owned s) (f : OpenFrame) (p : Station) : Owned (overflow f p s) :=
  ((Untouched.placeMark _ _).trans (.setParser _ _ _)).owned (((Untouched.setFrame s _ _).owned h).failFrame f)

theorem Owned.pixelReceived (h : Owned s) (f : OpenFrame) (p : Station) (b : Byte) : Owned (pixelReceived f p b s) := by
  unfold Machine.pixelReceived
  split
  · exact (Untouched.setParser s _ _).owned h
  · split
    · exact h.overflow f p
    · exact (Untouched.updPort s _ _).owned h

end

end Sys2Proof.Machine
end

section
/-! The ownership of fires through the Gate Unit (O9): starts, ends, cuts and misses as turns of one gate. -/

namespace Sys2Proof.Machine

open Sys2Proof.Safety

/-! ## A turn of one gate -/

/-- A fire after a turn of its gate: with a new status, or gone. -/
def Fire.turned (act : Fire → Option FireStatus) (f : Fire) : Option Fire :=
  (act f).map fun y => { f with status := y }

/-- The phase of a fire's item by what a turn makes of the fire: FIRING while it is ON, PASSED once it is gone. -/
def phaseOf : Option FireStatus → Phase
  | none => .passed
  | some .on => .firing
  | some .scheduled => .decided
  | some .held => .decided

/-- A change of records that keeps identity, station outcomes and decision. -/
def KeepsButPhase (k : Item → Item) : Prop :=
  ∀ j, identity (k j) = identity j ∧ (k j).stations = j.stations ∧ (k j).decision = j.decision

theorem phaseOf_some (y : FireStatus) : phaseOf (some y) = if y = .on then .firing else .decided := by
  cases y <;> rfl

theorem turned_some {act : Fire → Option FireStatus} {f e : Fire} (h : f.turned act = some e) :
    e.tag = f.tag ∧ act f = some e.status := by
  obtain ⟨y, hit, rfl⟩ := Option.map_eq_some_iff.mp h
  exact ⟨rfl, hit⟩

theorem nodup_tags_turned {act : Fire → Option FireStatus} {l : List Fire} (once : (l.map Fire.tag).Nodup) :
    ((l.filterMap (Fire.turned act)).map Fire.tag).Nodup := by
  refine once.sublist ?_
  induction l with
  | nil => exact .slnil
  | cons f l ih =>
    have ih := ih (List.nodup_cons.mp once).2
    cases hit : f.turned act with
    | none =>
      rw [List.filterMap_cons_none hit]
      exact ih.cons _
    | some e =>
      rw [List.filterMap_cons_some hit, List.map_cons, List.map_cons, (turned_some hit).1]
      exact ih.cons_cons _

section

variable {s t : State} {st : Station} {g : Gate} {i j : Item}

theorem Item.firesFor_iff {y : FireStatus} :
    j.firesFor g y ↔ (∃ d ∈ j.decision.toList, d.action = gateAction g) ∧ j.phase = phaseOf (some y) := by
  rw [Item.firesFor, phaseOf_some]

/-- An item with a fire is decided for that gate alone, and has no station left to resolve. -/
theorem Owned.firesFor (h : Owned s) (member : j ∈ s.queue.items) {f : Fire} (inside : f ∈ (gateOf g s).fires)
    (own : f.tag = j.tag) : j.firesFor g f.status := by
  obtain ⟨i, there, tag, fires⟩ := (h.gates g).fires f inside
  obtain rfl := h.eq_of_tag there member (tag.trans own)
  exact fires

theorem gate_eq_of_action {d : Option Decision} {g a : Gate} (one : ∃ e ∈ d.toList, e.action = gateAction g)
    (other : ∃ e ∈ d.toList, e.action = gateAction a) : a = g := by
  obtain ⟨e, inside, action⟩ := one
  obtain ⟨e', inside', action'⟩ := other
  rw [Option.mem_toList] at inside inside'
  obtain rfl : e = e' := Option.some.inj (inside.symm.trans inside')
  rw [action] at action'
  cases a <;> cases g <;> first | rfl | cases action'

theorem action_ne_accept {g : Gate} {d : Decision} (h : d.action = gateAction g) : d.action ≠ .accept := by
  rw [h]
  cases g <;> decide

/-- A record of one of the three phases that a turn leaves is sound where its decision is no ACCEPT. -/
theorem itemSound_of_turned {i k : Item} (stations : k.stations = i.stations) (decision : k.decision = i.decision)
    (sound : ItemSound i) (decided : ∃ d ∈ i.decision.toList, d.action = gateAction g)
    (before : i.phase = .decided ∨ i.phase = .firing) (phase : k.phase = .decided ∨ k.phase = .firing ∨ k.phase = .passed) :
    ItemSound k where
  waiting st hit := by
    have := sound.waiting st (stations ▸ hit)
    rw [this] at before
    rcases before with bad | bad <;> cases bad
  triggered st hit := by
    have := sound.triggered st (stations ▸ hit)
    rcases before with bad | bad <;> rw [bad] at this <;> rcases this with bad | bad <;> cases bad
  undecided bad := by
    rcases phase with phase | phase | phase <;> rw [phase] at bad <;> rcases bad with bad | bad <;> cases bad
  decided _ := by
    obtain ⟨d, inside, action⟩ := decided
    exact decision ▸ ⟨d, inside, action_ne_accept action⟩
  passed _ := by
    obtain ⟨d, inside, -⟩ := decided
    rw [decision, Option.mem_toList.mp inside]
    simp

/-- One gate takes a turn: its fires take a status or leave, and with them their items take the phase of theirs. -/
theorem Owned.turn {act : Fire → Option FireStatus} {k : Item → Item} {x : GateState} {q : LinePort} (h : Owned s)
    (fires : x.fires = (gateOf g s).fires.filterMap (Fire.turned act)) (kept : KeepsButPhase k)
    (still : ∀ j ∈ s.queue.items, (∀ f ∈ (gateOf g s).fires, f.tag ≠ j.tag) → (k j).phase = j.phase)
    (phase : ∀ j ∈ s.queue.items, ∀ f ∈ (gateOf g s).fires, f.tag = j.tag → (k j).phase = phaseOf (act f))
    (on : x.output = .on ↔ ∃ f ∈ (gateOf g s).fires, act f = some .on)
    (recovery : ∀ f ∈ (gateOf g s).fires, act f = some .held → x.output ≠ .idle ∧ x.output ≠ .on) :
    Owned (Safety.withGate g x { s with queue.items := s.queue.items.map k, port := q }) := by
  have same (j : Item) : identity (k j) = identity j := (kept j).1
  have stations (j : Item) : (k j).stations = j.stations := (kept j).2.1
  have decision (j : Item) : (k j).decision = j.decision := (kept j).2.2
  have apart (j : Item) (member : j ∈ s.queue.items) (other : j.phase ≠ .decided) (last : j.phase ≠ .firing) :
      (k j).phase = j.phase := by
    refine still j member fun f inside own => ?_
    have owner := (h.firesFor member inside own).2
    split at owner
    · exact last owner
    · exact other owner
  refine h.of_map (k := k) (withGate_items g x _) same (fun j member => ?_) (fun a => ?_) fun a => ?_
  · by_cases owned : ∃ f ∈ (gateOf g s).fires, f.tag = j.tag
    · obtain ⟨f, inside, own⟩ := owned
      obtain ⟨decided, before⟩ := h.firesFor member inside own
      refine itemSound_of_turned (stations j) (decision j) (h.items j member) decided ?_ ?_
      · rw [before]
        split <;> simp
      · rw [phase j member f inside own]
        rcases act f with _ | _ | _ | _ <;> simp [phaseOf]
    · have unchanged := still j member fun f inside own => owned ⟨f, inside, own⟩
      have sound := h.items j member
      exact
        { waiting := fun st hit => unchanged ▸ sound.waiting st (stations j ▸ hit)
          triggered := fun st hit => unchanged ▸ sound.triggered st (stations j ▸ hit)
          undecided := fun before => decision j ▸ sound.undecided (unchanged ▸ before)
          decided := fun before => decision j ▸ sound.decided (unchanged ▸ before)
          passed := fun before => decision j ▸ sound.passed (unchanged ▸ before) }
  · have trig : (Safety.withGate g x { s with queue.items := s.queue.items.map k, port := q }).trig = s.trig := by cases g <;> rfl
    rw [trig]
    refine (h.stations a).map same (fun j member _ _ _ _ awaits => ?_) fun j member _ _ _ _ expects => ?_
    · have unchanged : (k j).phase = j.phase := by
        refine apart j member ?_ ?_ <;> rcases awaits.1 with before | before <;> rw [before] <;> decide
      exact ⟨unchanged ▸ awaits.1, stations j ▸ awaits.2⟩
    · have unchanged : (k j).phase = j.phase := by
        refine apart j member ?_ ?_ <;> rw [expects.1] <;> decide
      exact ⟨unchanged ▸ expects.1, stations j ▸ expects.2⟩
  · by_cases here : a = g
    · subst here
      rw [gateOf_withGate_same]
      have turned {e : Fire} (inside : e ∈ x.fires) : ∃ f ∈ (gateOf a s).fires, e.tag = f.tag ∧ act f = some e.status := by
        rw [fires] at inside
        obtain ⟨f, there, hit⟩ := List.mem_filterMap.mp inside
        exact ⟨f, there, turned_some hit⟩
      constructor
      · intro e inside
        obtain ⟨f, there, tag, hit⟩ := turned inside
        obtain ⟨i, member, own, owner⟩ := (h.gates a).fires f there
        refine ⟨k i, List.mem_map_of_mem member, ((congrArg Prod.fst (same i)).trans own).trans tag.symm, ?_⟩
        rw [Item.firesFor_iff, decision, phase i member f there own.symm, hit]
        exact ⟨owner.1, rfl⟩
      · rw [fires]
        exact nodup_tags_turned (h.gates a).once
      · rw [on]
        constructor
        · rintro ⟨f, inside, hit⟩
          refine ⟨{ f with status := .on }, ?_, rfl⟩
          rw [fires]
          exact List.mem_filterMap.mpr ⟨f, inside, by rw [Fire.turned, hit]; rfl⟩
        · rintro ⟨e, inside, status⟩
          obtain ⟨f, there, -, hit⟩ := turned inside
          exact ⟨f, there, status ▸ hit⟩
      · intro e inside status
        obtain ⟨f, there, -, hit⟩ := turned inside
        exact recovery f there (status ▸ hit)
    · have elsewhere : gateOf a (Safety.withGate g x { s with queue.items := s.queue.items.map k, port := q }) = gateOf a s := by
        rw [gateOf_withGate_other _ _ here]
        cases a <;> rfl
      rw [elsewhere]
      refine (h.gates a).map same fun j member e inside own owner => ?_
      have unchanged : (k j).phase = j.phase := still j member fun f there tag =>
        here (gate_eq_of_action (h.firesFor member there tag).1 owner.1)
      exact ⟨decision j ▸ owner.1, unchanged ▸ owner.2⟩

end

end Sys2Proof.Machine
end

section
/-! Starts, ends, misses, releases and cuts keep every fire owned (O9). -/

namespace Sys2Proof.Machine

open Sys2Proof.Safety

section

variable {s t : State} {g : Gate} {f : Fire}

/-! ## One fire -/

/-- One fire takes a status or leaves; the others stay. -/
def oneTakes (tag : Tag) (o : Option FireStatus) (f : Fire) : Option FireStatus :=
  if f.tag = tag then o else some f.status

theorem turned_some_status {act : Fire → Option FireStatus} (same : act f = some f.status) : f.turned act = some f := by
  rw [Fire.turned, same]
  rfl

theorem filterMap_oneTakes_some (tag : Tag) (y : FireStatus) (l : List Fire) :
    l.filterMap (Fire.turned (oneTakes tag (some y))) = l.map fun f => if f.tag = tag then { f with status := y } else f := by
  rw [← List.filterMap_eq_map]
  refine List.filterMap_congr fun f _ => ?_
  by_cases own : f.tag = tag <;> simp [Fire.turned, oneTakes, own]

theorem filterMap_oneTakes_none (tag : Tag) (l : List Fire) :
    l.filterMap (Fire.turned (oneTakes tag none)) = l.filter fun f => f.tag != tag := by
  rw [← List.filterMap_eq_filter]
  refine List.filterMap_congr fun f _ => ?_
  by_cases own : f.tag = tag <;> simp [Fire.turned, oneTakes, own, Option.guard]

theorem keepsButPhase_outcomeOn (p : Phase) (o : GateOutcome) (tags : List Tag) :
    KeepsButPhase fun j => if j.tag ∈ tags then { j with phase := p, gateOutcome := o } else j := by
  intro j
  by_cases own : j.tag ∈ tags
  · simp only [own, if_true, identity, and_self]
  · simp only [own, if_false, and_self]

/-- The phase of a fire's item is that of its status. -/
theorem Owned.phase_of_fire (h : Owned s) {j : Item} (member : j ∈ s.queue.items) (inside : f ∈ (gateOf g s).fires)
    (own : f.tag = j.tag) : j.phase = phaseOf (some f.status) :=
  (Item.firesFor_iff.mp (h.firesFor member inside own)).2

theorem Owned.fire_eq (h : Owned s) {e : Fire} (one : e ∈ (gateOf g s).fires) (other : f ∈ (gateOf g s).fires)
    (same : e.tag = f.tag) : e = f :=
  List.inj_on_of_nodup_map (h.gates g).once one other same

/-- One fire of a gate takes a status or leaves, its item the phase that goes with it. -/
theorem Owned.turnOne {o : Option FireStatus} {outcome : GateOutcome} {x : GateState} {q : LinePort} (h : Owned s)
    (inside : f ∈ (gateOf g s).fires) (fires : x.fires = (gateOf g s).fires.filterMap (Fire.turned (oneTakes f.tag o)))
    (on : x.output = .on ↔ ∃ e ∈ (gateOf g s).fires, oneTakes f.tag o e = some .on)
    (recovery : ∀ e ∈ (gateOf g s).fires, oneTakes f.tag o e = some .held → x.output ≠ .idle ∧ x.output ≠ .on) :
    Owned (Safety.withGate g x { s with queue.items := outcomeOn (phaseOf o) outcome [f.tag] s.queue.items, port := q }) := by
  refine h.turn fires (keepsButPhase_outcomeOn _ _ _) (fun j member away => ?_) (fun j member e there own => ?_) on recovery
  · have other : j.tag ∉ [f.tag] := fun own => away f inside (List.mem_singleton.mp own).symm
    simp only [other, if_false]
  · by_cases same : e.tag = f.tag
    · have listed : j.tag ∈ [f.tag] := List.mem_singleton.mpr (own.symm.trans same)
      simp only [listed, if_true, oneTakes, if_pos same]
    · have other : j.tag ∉ [f.tag] := fun listed => same (own.trans (List.mem_singleton.mp listed))
      simp only [other, if_false, oneTakes, if_neg same]
      exact h.phase_of_fire member there own

/-! ## Starts (R148, R149) -/

/-- A SCHEDULED fire starts. -/
theorem Owned.startFire (h : Owned s) (inside : f ∈ (gateOf g s).fires) (scheduled : f.status = .scheduled) :
    Owned (startFire g f.tag s) := by
  have gate := h.gates g
  have started : ∃ e ∈ (gateOf g s).fires, oneTakes f.tag (some .on) e = some .on := ⟨f, inside, if_pos rfl⟩
  have unheld (e : Fire) (there : e ∈ (gateOf g s).fires) (held : oneTakes f.tag (some .on) e = some .held) :
      (gateOf g s).output ≠ .idle ∧ (gateOf g s).output ≠ .on := by
    unfold oneTakes at held
    split at held
    · cases held
    · exact gate.outputRecovery e there (Option.some.inj held)
  cases output : (gateOf g s).output with
  | idle =>
    rw [startFire_of_idle output]
    exact h.turnOne inside (filterMap_oneTakes_some _ _ _).symm (iff_of_true rfl started)
      fun e there held => absurd output (unheld e there held).1
  | on =>
    rw [startFire_of_on output]
    exact h.turnOne (x := (gateOf g s).setStatus f.tag .on) inside (filterMap_oneTakes_some _ _ _).symm
      (iff_of_true output started) fun e there held => absurd output (unheld e there held).2
  | recovery expiry =>
    rw [startFire_of_recovery output]
    have none_on : ¬ ∃ e ∈ (gateOf g s).fires, e.status = .on := fun some_ => by
      rw [gate.outputOn.mpr some_] at output
      cases output
    have turned := h.turn (act := oneTakes f.tag (some .held)) (k := id) (x := (gateOf g s).setStatus f.tag .held)
      (q := s.port) (filterMap_oneTakes_some _ _ _).symm (fun _ => ⟨rfl, rfl, rfl⟩) (fun _ _ _ => rfl)
      (fun j member e there own => ?_) (iff_of_false (fun bad => ?_) ?_) fun _ _ _ => ?_
    · rw [List.map_id] at turned
      exact turned
    · unfold oneTakes
      split
      next same =>
        obtain rfl := h.fire_eq there inside same
        rw [id, h.phase_of_fire member there own, scheduled]
        rfl
      next => exact h.phase_of_fire member there own
    · cases output.symm.trans bad
    · rintro ⟨e, there, hit⟩
      unfold oneTakes at hit
      split at hit
      · cases hit
      · exact none_on ⟨e, there, Option.some.inj hit⟩
    · show (gateOf g s).output ≠ .idle ∧ (gateOf g s).output ≠ .on
      rw [output]
      exact ⟨by simp, by simp⟩

/-- The other fires of the gate stay as they are. -/
theorem mem_fires_startFire {e : Fire} {tag : Tag} (inside : e ∈ (gateOf g s).fires) (other : e.tag ≠ tag) :
    e ∈ (gateOf g (Machine.startFire g tag s)).fires := by
  have stays (y : FireStatus) : e ∈ (gateOf g s).fires.map fun f => if f.tag = tag then { f with status := y } else f :=
    List.mem_map.mpr ⟨e, inside, if_neg other⟩
  cases output : (gateOf g s).output with
  | idle =>
    rw [startFire_of_idle output, gateOf_withGate_same]
    exact stays .on
  | on =>
    rw [startFire_of_on output, gateOf_withGate_same]
    exact stays .on
  | recovery expiry =>
    rw [startFire_of_recovery output, gateOf_withGate_same]
    exact stays .held

theorem Owned.startEach {l : List Fire} (once : (l.map Fire.tag).Nodup) (h : Owned s)
    (each : ∀ e ∈ l, e ∈ (gateOf g s).fires ∧ e.status = .scheduled) :
    Owned ((l.map Fire.tag).foldl (fun t tag => Machine.startFire g tag t) s) := by
  induction l generalizing s with
  | nil => exact h
  | cons f l ih =>
    obtain ⟨apart, once⟩ := List.nodup_cons.mp once
    obtain ⟨inside, scheduled⟩ := each f List.mem_cons_self
    refine ih once (h.startFire inside scheduled) fun e later => ?_
    obtain ⟨there, waits⟩ := each e (List.mem_cons_of_mem f later)
    exact ⟨mem_fires_startFire there fun same => apart (same ▸ List.mem_map_of_mem later), waits⟩

theorem Owned.startFires (h : Owned s) (g : Gate) : Owned (startFires g s) := by
  rw [startFires_eq]
  refine h.startEach ((h.gates g).once.sublist (List.filter_sublist.map _)) fun e listed => ?_
  obtain ⟨inside, starts⟩ := List.mem_filter.mp listed
  exact ⟨inside, (startsNow_iff.mp starts).1⟩

/-! ## Misses (R147, R151) -/

/-- A fire that is not ON is missed. -/
theorem Owned.missFire (h : Owned s) (inside : f ∈ (gateOf g s).fires) (off : f.status ≠ .on) : Owned (missFire g f.tag s) := by
  rw [missFire_eq]
  refine Untouched.owned (s := Safety.withGate g _ _) (.of_units rfl rfl rfl)
    (h.turnOne (o := none) inside (filterMap_oneTakes_none _ _).symm ?_ fun e there held => ?_)
  · rw [(h.gates g).outputOn]
    constructor
    · rintro ⟨e, there, on⟩
      refine ⟨e, there, ?_⟩
      rw [oneTakes, if_neg, on]
      exact fun same => off (h.fire_eq there inside same ▸ on)
    · rintro ⟨e, there, hit⟩
      unfold oneTakes at hit
      split at hit
      · cases hit
      · exact ⟨e, there, Option.some.inj hit⟩
  · unfold oneTakes at held
    split at held
    · cases held
    · exact (h.gates g).outputRecovery e there (Option.some.inj held)

theorem Owned.examinePlaced (h : Owned s) (inside : f ∈ (gateOf g s).fires) (scheduled : f.status = .scheduled) :
    Owned (examinePlaced g f s) := by
  unfold Machine.examinePlaced
  split
  · split
    · exact h.missFire inside (by rw [scheduled]; decide)
    · exact h.startFire inside scheduled
  · exact h

/-! ## Many fires at once: ends, releases, cuts (R150, R151, R153) -/

/-- The item of a fire carries the tag of one that meets a test exactly where the fire meets it. -/
theorem Owned.mem_tags_filter (h : Owned s) (inside : f ∈ (gateOf g s).fires) {tag : Tag} (own : f.tag = tag) (p : Fire → Bool) :
    tag ∈ ((gateOf g s).fires.filter p).map Fire.tag ↔ p f = true := by
  constructor
  · intro listed
    obtain ⟨e, there, same⟩ := List.mem_map.mp listed
    obtain ⟨there, hit⟩ := List.mem_filter.mp there
    exact h.fire_eq there inside (same.trans own.symm) ▸ hit
  · exact fun hit => List.mem_map.mpr ⟨f, List.mem_filter.mpr ⟨inside, hit⟩, own⟩

theorem not_mem_tags_of_away {l : List Fire} {tag : Tag} (away : ∀ f ∈ l, f.tag ≠ tag) (p : Fire → Bool) :
    tag ∉ (l.filter p).map Fire.tag := fun listed => by
  obtain ⟨e, there, same⟩ := List.mem_map.mp listed
  exact away e (List.mem_filter.mp there).1 same

/-- The fires that meet a test leave, the others stay. -/
def testLeaves (p : Fire → Bool) (f : Fire) : Option FireStatus :=
  if p f then none else some f.status

theorem filterMap_testLeaves (p : Fire → Bool) (l : List Fire) :
    l.filterMap (Fire.turned (testLeaves p)) = l.filter fun f => !p f := by
  rw [← List.filterMap_eq_filter]
  refine List.filterMap_congr fun f _ => ?_
  cases hit : p f <;> simp [Fire.turned, testLeaves, hit, Option.guard]

theorem testLeaves_eq_some_iff {p : Fire → Bool} {y : FireStatus} : testLeaves p f = some y ↔ p f = false ∧ f.status = y := by
  unfold testLeaves
  cases p f <;> simp

/-- The ended fires leave, and their items are PASSED. -/
theorem Owned.endFires (h : Owned s) (g : Gate) : Owned (endFires g s) := by
  have gate := h.gates g
  have tags (tag : Tag) : ((gateOf g s).fires.any fun f => f.endsNow s && f.tag == tag) = true
      ↔ tag ∈ ((gateOf g s).fires.filter (Fire.endsNow s)).map Fire.tag := by
    rw [← any_tag_eq_true_iff, List.any_filter]
  have off : outputOff g s ≠ .on := by
    unfold outputOff
    split <;> simp
  rw [endFires_eq]
  refine h.turn (act := testLeaves (Fire.endsNow s)) (filterMap_testLeaves _ _).symm (fun j => ?_) (fun j member away => ?_)
    (fun j member f inside own => ?_) ⟨fun on => ?_, ?_⟩ fun f inside held => ?_
  · split <;> exact ⟨rfl, rfl, rfl⟩
  · simp only [tags, not_mem_tags_of_away away, if_false]
  · simp only [tags, h.mem_tags_filter inside own, testLeaves]
    split
    · rfl
    · exact h.phase_of_fire member inside own
  · split at on
    · exact absurd on off
    next still =>
      have left : ¬ ∀ f ∈ (gateOf g s).fires.filter (fun e : Fire => !e.endsNow s), f.status ≠ .on := fun all => still ⟨on, all⟩
      push Not at left
      obtain ⟨f, inside, status⟩ := left
      obtain ⟨there, stays⟩ := List.mem_filter.mp inside
      exact ⟨f, there, testLeaves_eq_some_iff.mpr ⟨by simpa using stays, status⟩⟩
  · rintro ⟨f, inside, hit⟩
    obtain ⟨stays, status⟩ := testLeaves_eq_some_iff.mp hit
    have left : f ∈ (gateOf g s).fires.filter fun e : Fire => !e.endsNow s := List.mem_filter.mpr ⟨inside, by rw [stays]; rfl⟩
    simp only
    rw [if_neg fun all => all.2 f left status]
    exact gate.outputOn.mpr ⟨f, inside, status⟩
  · obtain ⟨-, status⟩ := testLeaves_eq_some_iff.mp held
    have running := gate.outputRecovery f inside status
    simp only
    rwa [if_neg fun all => running.2 all.1]

theorem Owned.examineGate (h : Owned s) (g : Gate) : Owned (examineGate g s) :=
  (h.startFires g).endFires g

/-- At a recovery expiry a HELD fire is ON or leaves, by its end; the others stay (R151). -/
def heldReleased (position : Word32) (f : Fire) : Option FireStatus :=
  if f.status = .held then (if startsLate position f then some .on else none) else some f.status

theorem filterMap_heldReleased (once : ((gateOf g s).fires.map Fire.tag).Nodup) {position : Word32} :
    (gateOf g s).fires.filterMap (Fire.turned (heldReleased position))
      = firesReleased (startsLate position) (heldFires g s) (gateOf g s).fires := by
  rw [firesReleased]
  refine List.filterMap_congr fun f member => ?_
  simp only [heldFires, mem_tags_filter_iff once member, decide_eq_true_iff, Fire.turned, heldReleased]
  by_cases held : f.status = .held
  · cases startsLate position f <;> simp [held]
  · simp [held]

theorem keepsButPhase_itemsReleased (late : Fire → Bool) (l : List Fire) : KeepsButPhase fun j =>
    if j.tag ∈ (l.filter late).map Fire.tag then { j with phase := .firing, gateOutcome := .lateFire }
    else if j.tag ∈ (l.filter fun f => !late f).map Fire.tag then { j with phase := .passed, gateOutcome := .missed }
    else j := by
  intro j
  simp only
  split
  · exact ⟨rfl, rfl, rfl⟩
  · split <;> exact ⟨rfl, rfl, rfl⟩

/-- The HELD fires of a gate in RECOVERY start late or leave. -/
theorem Owned.leaveRecovery {expiry : Word32} (h : Owned s) (output : (gateOf g s).output = .recovery expiry) :
    Owned (leaveRecovery g s) := by
  have gate := h.gates g
  have none_on (f : Fire) (inside : f ∈ (gateOf g s).fires) : f.status ≠ .on := fun on => by
    rw [gate.outputOn.mpr ⟨f, inside, on⟩] at output
    cases output
  rw [released_eq gate.once]
  refine h.turn (act := heldReleased s.pos.position) (filterMap_heldReleased gate.once).symm (keepsButPhase_itemsReleased _ _)
    (fun j member away => ?_) (fun j member f inside own => ?_) ?_ fun f inside held => ?_
  · simp only [heldFires, List.filter_filter, not_mem_tags_of_away away, if_false]
  · simp only [heldFires, List.filter_filter, h.mem_tags_filter inside own, heldReleased]
    by_cases held : f.status = .held
    · cases late : startsLate s.pos.position f <;> simp [held, phaseOf]
    · simpa [held] using h.phase_of_fire member inside own
  · constructor
    · intro on
      split at on
      next some_ =>
        obtain ⟨f, listed, late⟩ := List.any_eq_true.mp some_
        obtain ⟨inside, -⟩ := List.mem_filter.mp listed
        exact ⟨f, inside, by rw [heldReleased, if_pos (held_of_mem listed), if_pos late]⟩
      · cases on
    · rintro ⟨f, inside, hit⟩
      unfold heldReleased at hit
      split at hit
      next held =>
        split at hit
        next late => exact if_pos (List.any_eq_true.mpr ⟨f, List.mem_filter.mpr ⟨inside, decide_eq_true held⟩, late⟩)
        next => cases hit
      next => exact absurd (Option.some.inj hit) (none_on f inside)
  · unfold heldReleased at held
    split at held
    · split at held <;> cases held
    next other => exact absurd (Option.some.inj held) other

/-- The ON fires of a gate whose output is ON are cut. -/
theorem Owned.cutGate (h : Owned s) (g : Gate) : Owned (cutGate g s) := by
  have gate := h.gates g
  rw [cutGate_eq]
  by_cases on : (gateOf g s).output = .on
  · have cut : gateCut (gateOf g s) = { output := .idle, fires := (gateOf g s).fires.filter fun f => decide (f.status ≠ .on) } :=
      if_pos on
    have fires : cutFires g s = (gateOf g s).fires.filter fun f => decide (f.status = .on) := if_pos on
    rw [cut, fires]
    refine h.turn (act := testLeaves fun f => decide (f.status = .on)) ?_ (keepsButPhase_outcomeOn _ _ _)
      (fun j member away => ?_) (fun j member f inside own => ?_) (iff_of_false (by simp) ?_) fun f inside held => ?_
    · rw [filterMap_testLeaves]
      exact List.filter_congr fun f _ => by simp
    · simp only [not_mem_tags_of_away away, if_false]
    · simp only [h.mem_tags_filter inside own, testLeaves]
      split
      · rfl
      · exact h.phase_of_fire member inside own
    · rintro ⟨f, inside, hit⟩
      obtain ⟨stays, status⟩ := testLeaves_eq_some_iff.mp hit
      exact of_decide_eq_false stays status
    · exact absurd on (gate.outputRecovery f inside (testLeaves_eq_some_iff.mp held).2).2
  · have cut : gateCut (gateOf g s) = gateOf g s := if_neg on
    have fires : cutFires g s = [] := if_neg on
    have same : outcomeOn .passed .cut [] s.queue.items = s.queue.items := by simp [outcomeOn]
    rw [cut, fires, List.map_nil, same]
    refine Untouched.owned (s := s) ⟨?_, ?_, ?_, ?_⟩ h <;> cases g <;> rfl

end

end Sys2Proof.Machine
end

section
/-! Retirement, decisions, voids, verdicts and creation keep queues and fires owned (O9). -/

namespace Sys2Proof.Machine

open Sys2Proof.Safety

section

variable {s t : State} {st : Station} {g : Gate} {i j : Item}

/-! ## Retirement (R16, R17) -/

/-- A PASSED or VOID head is the owner of nothing, and may go. -/
theorem Owned.retireHead {rest : List Item} (h : Owned s) (items : s.queue.items = i :: rest)
    (gone : i.phase = .passed ∨ i.phase = .void) : Owned (retireHead i rest s) := by
  have left {tag : Tag} {P : Item → Prop} (found : ∃ j ∈ s.queue.items, j.tag = tag ∧ P j) (alive : ¬ P i) :
      ∃ j ∈ rest, j.tag = tag ∧ P j := by
    obtain ⟨j, member, own, holds⟩ := found
    rw [items] at member
    rcases List.mem_cons.mp member with rfl | member
    · exact absurd holds alive
    · exact ⟨j, member, own, holds⟩
  have notAwaits {bank : BankName} {a : Station} : ¬ (i.bank = bank ∧ i.awaits a) := fun ⟨_, phase, _⟩ => by
    rcases gone with gone | gone <;> rw [gone] at phase <;> rcases phase with bad | bad <;> cases bad
  have notExpects {bank : BankName} {a : Station} : ¬ (i.bank = bank ∧ i.expects a) := fun ⟨_, phase, _⟩ => by
    rcases gone with gone | gone <;> rw [gone] at phase <;> cases phase
  have notFires {y : FireStatus} {a : Gate} : ¬ i.firesFor a y := fun ⟨_, phase⟩ => by
    rcases gone with gone | gone <;> rw [gone] at phase <;> split at phase <;> cases phase
  have shorter : Owned { s with queue.items := rest } :=
    { count := by
        have := h.count
        rw [items, List.length_cons] at this
        exact (Nat.le_succ _).trans this
      apart := by
        have := h.apart
        rw [items] at this
        exact (List.nodup_cons.mp this).2
      items := fun j member => h.items j (items ▸ List.mem_cons_of_mem i member)
      stations := fun a =>
        { h.stations a with
          queued := fun e queued => left ((h.stations a).queued e queued) notAwaits
          timed := fun e timed => left ((h.stations a).timed e timed) notExpects }
      gates := fun a => { h.gates a with fires := fun f inside => left ((h.gates a).fires f inside) notFires } }
  exact ((Untouched.updBank _ _ _).trans (.offerReport _ _)).owned shorter

theorem Owned.examineHeads (h : Owned s) (fuel : Nat) : Owned (examineHeads fuel s) := by
  induction fuel generalizing s with
  | zero => exact h
  | succ fuel ih =>
    unfold Machine.examineHeads
    split
    · exact h
    next i rest items =>
      split
      next retires => exact ih (h.retireHead items (mayRetire_iff.mp retires).1)
      next => exact h

theorem Owned.examineHead (h : Owned s) : Owned (examineHead s) :=
  h.examineHeads _

theorem Owned.examineGates (h : Owned s) : Owned (examineGates s) :=
  ((h.examineGate .reject).examineGate .rework).examineHead

theorem Owned.gatesAtHalt (h : Owned s) : Owned (gatesAtHalt s) := by
  unfold Machine.gatesAtHalt
  split
  · exact ((h.cutGate .reject).cutGate .rework).examineHead
  · exact h

/-! ## One record changed -/

/-- The record that carries a tag changed by a function, the others as they were. -/
def tagChanged (tag : Tag) (f : Item → Item) (j : Item) : Item :=
  if j.tag = tag then f j else j

theorem identity_tagChanged {tag : Tag} {f : Item → Item} (same : ∀ j, identity (f j) = identity j) (j : Item) :
    identity (tagChanged tag f j) = identity j := by
  unfold tagChanged
  split
  · exact same j
  · rfl

theorem tagChanged_of_ne {tag : Tag} {f : Item → Item} (other : j.tag ≠ tag) : tagChanged tag f j = j :=
  if_neg other

/-- Verdict and force are free for any record to take (R56, R58). -/
theorem Owned.updItem_of_same {tag : Tag} {f : Item → Item} (h : Owned s) (same : ∀ j, identity (f j) = identity j)
    (phase : ∀ j, (f j).phase = j.phase) (stations : ∀ j, (f j).stations = j.stations)
    (decision : ∀ j, (f j).decision = j.decision) : Owned (updItem tag f s) := by
  have kept (j : Item) : (tagChanged tag f j).phase = j.phase ∧ (tagChanged tag f j).stations = j.stations
      ∧ (tagChanged tag f j).decision = j.decision := by
    unfold tagChanged
    split
    · exact ⟨phase j, stations j, decision j⟩
    · exact ⟨rfl, rfl, rfl⟩
  refine h.of_map (k := tagChanged tag f) rfl (identity_tagChanged same) (fun j member => ?_)
    (fun a => (h.stations a).map (identity_tagChanged same) (fun j _ _ _ _ _ awaits => ?_) fun j _ _ _ _ _ expects => ?_)
    fun a => (h.gates a).map (identity_tagChanged same) fun j _ _ _ _ fires => ?_
  all_goals obtain ⟨samePhase, sameStations, sameDecision⟩ := kept j
  · have sound := h.items j member
    exact
      { waiting := fun a hit => samePhase ▸ sound.waiting a (sameStations ▸ hit)
        triggered := fun a hit => samePhase ▸ sound.triggered a (sameStations ▸ hit)
        undecided := fun before => sameDecision ▸ sound.undecided (samePhase ▸ before)
        decided := fun before => sameDecision ▸ sound.decided (samePhase ▸ before)
        passed := fun before => sameDecision ▸ sound.passed (samePhase ▸ before) }
  · exact ⟨samePhase ▸ awaits.1, sameStations ▸ awaits.2⟩
  · exact ⟨samePhase ▸ expects.1, sameStations ▸ expects.2⟩
  · exact ⟨sameDecision ▸ fires.1, samePhase ▸ fires.2⟩

/-- Once an item's triggers and timeouts have been removed, its record changes and every station stays owned. -/
theorem Owned.stationOwned_dropped {f : Item → Item} (h : Owned s) (member : i ∈ s.queue.items)
    (same : ∀ j, identity (f j) = identity j) (st : Station) :
    StationOwned (s.queue.items.map (tagChanged i.tag f)) st (StationTriggers.dropItem i.tag i.bank s.trig[st]) := by
  have shrunk : StationOwned s.queue.items st (StationTriggers.dropItem i.tag i.bank s.trig[st]) :=
    (h.stations st).shrink List.filter_sublist List.filter_sublist rfl
  refine shrunk.map (identity_tagChanged same) (fun j inside e queued own bank awaits => ?_)
    fun j inside e timed own bank expects => ?_
  · by_cases named : j.tag = i.tag
    · obtain rfl := h.eq_of_tag inside member named
      have kept := (List.mem_filter.mp queued).2
      simp [own, bank] at kept
    · rwa [tagChanged_of_ne named]
  · by_cases named : j.tag = i.tag
    · obtain rfl := h.eq_of_tag inside member named
      have kept := (List.mem_filter.mp timed).2
      simp [own, bank] at kept
    · rwa [tagChanged_of_ne named]

/-- A gate without a fire of an item stays owned while that item's record changes. -/
theorem GateOwned.tagChanged {l : List Item} {x : GateState} {tag : Tag} {f : Item → Item} (h : GateOwned l g x)
    (same : ∀ j, identity (f j) = identity j) (away : ∀ e ∈ x.fires, e.tag ≠ tag) :
    GateOwned (l.map (Machine.tagChanged tag f)) g x := by
  refine h.map (identity_tagChanged same) fun j _ e inside own fires => ?_
  rwa [tagChanged_of_ne fun named => away e inside (own.trans named)]

/-! ## Decisions (R60 to R65) -/

theorem Owned.undecided_phase (h : Owned s) (member : i ∈ s.queue.items) (undecided : i.decision = none)
    (alive : i.phase ≠ .void) : i.phase = .entered ∨ i.phase = .complete := by
  have sound := h.items i member
  cases phase : i.phase with
  | entered => exact .inl rfl
  | complete => exact .inr rfl
  | decided =>
    obtain ⟨d, inside, -⟩ := sound.decided (.inl phase)
    rw [undecided] at inside
    cases inside
  | firing =>
    obtain ⟨d, inside, -⟩ := sound.decided (.inr phase)
    rw [undecided] at inside
    cases inside
  | passed => exact absurd undecided (sound.passed phase)
  | void => exact absurd phase alive

/-- An item with a decision not taken has no fire. -/
theorem Owned.no_fire_of_undecided (h : Owned s) (member : i ∈ s.queue.items) (undecided : i.decision = none) (g : Gate) :
    ∀ f ∈ (gateOf g s).fires, f.tag ≠ i.tag := fun f inside own => by
  obtain ⟨⟨d, decision, -⟩, -⟩ := h.firesFor member inside own
  rw [undecided] at decision
  cases decision

theorem itemSound_decidedBy (i : Item) (d : Decision) : ItemSound (i.decidedBy d) := by
  have resolved (a : Station) : (i.decidedBy d).stations[a] = i.stations[a].atDecision := by
    simp [Item.decidedBy, onEach]
  have settled (o : StationOutcome) : o.atDecision ≠ .waiting ∧ o.atDecision ≠ .triggered := by
    cases o <;> simp [StationOutcome.atDecision, StationOutcome.unresolved]
  exact
    { waiting := fun a hit => absurd (resolved a ▸ hit) (settled _).1
      triggered := fun a hit => absurd (resolved a ▸ hit) (settled _).2
      undecided := fun phase => by
        simp only [Item.decidedBy] at phase
        split at phase <;> rcases phase with bad | bad <;> cases bad
      decided := fun phase => by
        refine ⟨d, by simp [Item.decidedBy], fun accept => ?_⟩
        simp only [Item.decidedBy, if_pos accept] at phase
        rcases phase with bad | bad <;> cases bad
      passed := fun _ => by simp [Item.decidedBy] }

theorem gate?_eq_some_iff {a : Action} : a.gate? = some g ↔ a = gateAction g := by
  cases a <;> cases g <;> simp [Action.gate?, gateAction]

/-- A record's fire placed on a gate that has none of it yet. -/
theorem Owned.placeFire (h : Owned s) (member : i ∈ s.queue.items) (owner : i.firesFor g .scheduled)
    (away : ∀ f ∈ (gateOf g s).fires, f.tag ≠ i.tag) : Owned (placeFire g i s) := by
  have gate := h.gates g
  obtain ⟨before, after, list, placed, -⟩ := insertFire_eq (fireOf g i s) (gateOf g s).fires
  have mem (f : Fire) : f ∈ before ++ fireOf g i s :: after ↔ f = fireOf g i s ∨ f ∈ (gateOf g s).fires := by
    rw [list]
    simp only [List.mem_append, List.mem_cons]
    tauto
  rw [Machine.placeFire, updGate_eq_withGate]
  refine h.withGate ⟨?_, ?_, ?_, ?_⟩
  all_goals simp only [placed, mem]
  · rintro f (rfl | old)
    · exact ⟨i, member, rfl, owner⟩
    · exact gate.fires f old
  · have once := gate.once
    rw [list, List.map_append] at once
    rw [List.map_append, List.map_cons]
    refine (List.nodup_middle).mpr (List.nodup_cons.mpr ⟨fun bad => ?_, once⟩)
    rw [← List.map_append, ← list] at bad
    obtain ⟨f, inside, tag⟩ := List.mem_map.mp bad
    exact away f inside tag
  · rw [gate.outputOn]
    constructor
    · rintro ⟨f, inside, on⟩
      exact ⟨f, .inr inside, on⟩
    · rintro ⟨f, rfl | inside, on⟩
      · cases on
      · exact ⟨f, inside, on⟩
  · rintro f (rfl | old) held
    · cases held
    · exact gate.outputRecovery f old held

theorem Owned.decidedUnits (h : Owned s) (member : i ∈ s.queue.items) (undecided : i.decision = none) :
    Owned (decidedUnits i s) := by
  have same (j : Item) : identity (j.decidedBy (judge i s)) = identity j := rfl
  refine h.of_map (k := Machine.tagChanged i.tag (Item.decidedBy (judge i s))) (by rw [decidedUnits_queue]; rfl)
    (identity_tagChanged same) (fun j inside => ?_) (fun a => ?_) fun a => ?_
  · unfold Machine.tagChanged
    split
    · exact itemSound_decidedBy j _
    · exact h.items j inside
  · rw [decidedUnits_trig]
    have own : (onEach (StationTriggers.dropItem i.tag i.bank) s.trig)[a] = StationTriggers.dropItem i.tag i.bank s.trig[a] := by
      simp [onEach]
    rw [own]
    exact h.stationOwned_dropped member same a
  · have gate : gateOf a (Machine.decidedUnits i s) = gateOf a s := by
      cases a <;> simp [gateOf]
    rw [gate]
    exact (h.gates a).tagChanged same (h.no_fire_of_undecided member undecided a)

theorem Owned.decide_ (h : Owned s) (member : i ∈ s.queue.items) (undecided : i.decision = none) : Owned (decide_ i s) := by
  have units := (Untouched.offerReport _ (decisionReport i s)).owned (h.decidedUnits member undecided)
  have queue : (offerReport (decisionReport i s) (Machine.decidedUnits i s)).queue
      = (updItem i.tag (Item.decidedBy (judge i s)) s).queue := by
    rw [(Untouched.offerReport _ _).queue, decidedUnits_queue]
  have gates (g : Gate) : gateOf g (offerReport (decisionReport i s) (Machine.decidedUnits i s)) = gateOf g s := by
    rw [(Untouched.offerReport _ _).gateOf]
    cases g <;> simp [gateOf]
  rw [decide_eq, carryOut]
  split
  next g gate =>
    have action := gate?_eq_some_iff.mp gate
    refine units.placeFire ?_ ⟨⟨_, Option.mem_toList.mpr rfl, action⟩, if_neg (action_ne_accept action)⟩ ?_
    · rw [queue]
      exact List.mem_map.mpr ⟨i, member, if_pos rfl⟩
    · rw [gates]
      exact h.no_fire_of_undecided member undecided g
  next => exact units.examineHead

theorem Owned.examineDecision (h : Owned s) (tag : Tag) : Owned (examineDecision tag s) := by
  unfold Machine.examineDecision
  split
  next i found =>
    split
    next due => exact h.decide_ (mem_of_itemOf? found).1 (decisionDue_iff.mp due).1
    next => exact h
  next => exact h

theorem Owned.examineAllDecisions (h : Owned s) : Owned (examineAllDecisions s) :=
  List.foldlRecOn (motive := Owned) _ _ h fun _ h tag _ => h.examineDecision tag

theorem Owned.watch (h : Owned s) (w : Watcher) : Owned (watch w s) :=
  match w with
  | .triggerUnit => h.examineAllTriggers
  | .decisionUnit => h.examineAllDecisions
  | .gateUnit => h.examineGates
  | .itemQueue => h.examineHead

/-! ## Voids (R12 to R15) -/

theorem itemSound_voided (i : Item) : ItemSound i.voided := by
  have outcome (a : Station) : i.voided.stations[a] = i.stations[a].atVoid := by
    simp [Item.voided, onEach]
  have settled (o : StationOutcome) : o.atVoid ≠ .waiting := by
    cases o <;> simp [StationOutcome.atVoid]
  exact
    { waiting := fun a hit => absurd (outcome a ▸ hit) (settled _)
      triggered := fun _ _ => .inr rfl
      undecided := fun phase => by rcases phase with bad | bad <;> cases bad
      decided := fun phase => by rcases phase with bad | bad <;> cases bad
      passed := fun phase => by cases phase }

theorem gateOf_removeFire (i : Item) (s : State) (g : Gate) : gateOf g (removeFire i s)
    = if ∃ d ∈ i.decision.toList, d.action = gateAction g then (gateOf g s).dropFire i.tag else gateOf g s := by
  unfold removeFire
  cases decision : i.decision with
  | none => simp
  | some d => cases action : d.action <;> cases g <;> simp [Action.gate?, gateAction, action, updGate, gateOf]

/-- A record that is not FIRING is voided: its triggers, timeouts and fire go with it. -/
theorem Owned.voidUnits (h : Owned s) (member : i ∈ s.queue.items) (unfired : i.phase ≠ .firing) : Owned (voidUnits i s) := by
  have same (j : Item) : identity j.voided = identity j := rfl
  refine h.of_map (k := Machine.tagChanged i.tag Item.voided) (by rw [voidUnits_queue]; rfl) (identity_tagChanged same)
    (fun j inside => ?_) (fun a => ?_) fun a => ?_
  · unfold Machine.tagChanged
    split
    · exact itemSound_voided j
    · exact h.items j inside
  · rw [voidUnits_trig]
    have own : (onEach (StationTriggers.dropItem i.tag i.bank) s.trig)[a] = StationTriggers.dropItem i.tag i.bank s.trig[a] := by
      simp [onEach]
    rw [own]
    exact h.stationOwned_dropped member same a
  · rw [Machine.voidUnits, gateOf_removeFire, (Untouched.framesAtVoid _ i).gateOf]
    show GateOwned _ a (if _ then (gateOf a s).dropFire i.tag else gateOf a s)
    split
    next decided =>
      have off (f : Fire) (inside : f ∈ (gateOf a s).fires) (on : f.status = .on) : (f.tag != i.tag) = true :=
        bne_iff_ne.mpr fun own => unfired ((h.firesFor member inside own).2.trans (if_pos on))
      exact ((h.gates a).drop _ off).tagChanged same fun f inside => bne_iff_ne.mp (List.mem_filter.mp inside).2
    next none_ => exact (h.gates a).tagChanged same fun f inside own => none_ (h.firesFor member inside own).1

theorem Owned.voidRecord (h : Owned s) (member : i ∈ s.queue.items) (unfired : i.phase ≠ .firing) : Owned (voidRecord i s) := by
  rw [voidRecord_eq]
  exact (h.voidUnits member unfired).examineHead

theorem mem_of_address {mode : Byte} {n : Word16} {depth : Nat} (found : address mode n s = .found depth i) :
    i ∈ s.queue.items :=
  List.mem_of_getElem? (getElem?_of_address found)

theorem Owned.answerVoidItem (h : Owned s) (mode : Byte) (n : Word16) : Owned (answerVoidItem mode n s).1 := by
  unfold Machine.answerVoidItem
  split
  · exact h
  · exact h
  next depth i found =>
    have member := mem_of_address found
    split
    next phase => exact h.voidRecord member (by rw [phase]; decide)
    next phase => exact h.voidRecord member (by rw [phase]; decide)
    next phase => exact h.voidRecord member (by rw [phase]; decide)
    all_goals exact h

/-! ## Verdicts (R55, R58) -/

theorem Owned.answerVerdict (h : Owned s) (mode : Byte) (n : Word16) (action mask : Byte) :
    Owned (answerVerdict mode n action mask s).1 := by
  unfold Machine.answerVerdict
  split
  · exact h
  · exact h
  · exact h
  · split
    · exact h
    · split
      · exact h
      · exact h.updItem_of_same (fun _ => rfl) (fun _ => rfl) (fun _ => rfl) fun _ => rfl

theorem Owned.answerForceDecision (h : Owned s) (mode : Byte) (n : Word16) (action : Byte) :
    Owned (answerForceDecision mode n action s).1 := by
  unfold Machine.answerForceDecision
  split
  · exact h
  · exact h
  · exact h
  · split
    · exact h
    · split
      · exact h
      · exact h.updItem_of_same (fun _ => rfl) (fun _ => rfl) (fun _ => rfl) fun _ => rfl

/-! ## Creation (R3 to R8) -/

theorem nextTag_fresh (turn : TagsInTurn s) (room : s.queue.items.length < 128) :
    s.queue.nextTag ∉ s.queue.items.map Item.tag := by
  intro listed
  obtain ⟨i, member, same⟩ := List.mem_map.mp listed
  obtain ⟨k, inside, found⟩ := List.getElem_of_mem member
  have tag := turn k i (List.getElem?_eq_some_iff.mpr ⟨inside, found⟩)
  rw [← same] at tag
  have := i.tag.isLt
  omega

theorem itemSound_newItem (tag : Tag) (bank : BankName) (entry : Word32) (p : Plan) : ItemSound (newItem tag bank entry p) := by
  have untriggered (a : Station) : (newItem tag bank entry p).stations[a] ≠ .triggered := by
    have : (newItem tag bank entry p).stations[a] = if p.stations[a].enable then .waiting else .disabled := by
      simp [newItem, newStations, onEach]
    rw [this]
    split <;> decide
  exact
    { waiting := fun _ _ => rfl
      triggered := fun a hit => absurd hit (untriggered a)
      undecided := fun _ => rfl
      decided := fun phase => by rcases phase with bad | bad <;> cases bad
      passed := fun phase => by cases phase }

theorem Owned.appendItem (h : Owned s) (room : s.queue.items.length < 128) (fresh : i.tag ∉ s.queue.items.map Item.tag)
    (sound : ItemSound i) : Owned (appendItem i s) := by
  have longer {tag : Tag} {P : Item → Prop} (found : ∃ j ∈ s.queue.items, j.tag = tag ∧ P j) :
      ∃ j ∈ s.queue.items ++ [i], j.tag = tag ∧ P j := by
    obtain ⟨j, member, holds⟩ := found
    exact ⟨j, List.mem_append_left _ member, holds⟩
  refine (Untouched.updBank _ _ _).owned
    { count := by
        rw [List.length_append]
        exact room
      apart := by
        rw [List.map_append, List.nodup_append]
        exact ⟨h.apart, by simp, fun a old b new same => fresh (by
          rw [List.mem_singleton.mp new] at same
          exact same ▸ old)⟩
      items := fun j member => ?_
      stations := fun a =>
        { h.stations a with
          queued := fun e queued => longer ((h.stations a).queued e queued)
          timed := fun e timed => longer ((h.stations a).timed e timed) }
      gates := fun a => { h.gates a with fires := fun f inside => longer ((h.gates a).fires f inside) } }
  rcases List.mem_append.mp member with old | new
  · exact h.items j old
  · rw [List.mem_singleton.mp new]
    exact sound

theorem Owned.createItem (h : Owned s) (turn : TagsInTurn s) (room : s.queue.items.length < 128) (entry : Word32) :
    Owned (createItem entry s) := by
  have swapped := Untouched.swapIfPending s
  refine (swapped.owned h).appendItem (swapped.queue ▸ room) ?_ (itemSound_newItem _ _ _ _)
  show (swapIfPending s).queue.nextTag ∉ _
  rw [swapped.queue]
  exact nextTag_fresh turn room

theorem Owned.offerEntry (h : Owned s) (turn : TagsInTurn s) (entry : Word32) : Owned (offerEntry entry s) := by
  unfold Machine.offerEntry
  split
  · exact ((Untouched.raise s _).trans (.bump _ _)).owned h
  next room =>
    split
    · exact h.createItem turn ((queueFull_eq_false_iff s).mp (Bool.eq_false_iff.mpr room)) entry
    · exact ((Untouched.raise s _).trans (.bump _ _)).owned h

theorem Owned.answerAnnounceItem (h : Owned s) (turn : TagsInTurn s) (back : Word16) : Owned (answerAnnounceItem back s).1 := by
  unfold Machine.answerAnnounceItem
  dsimp only
  split_ifs with _ _ full
  · exact h
  · exact h
  · exact ((Untouched.raise s _).trans (.bump _ _)).owned h
  · exact h
  · exact h.createItem turn ((queueFull_eq_false_iff s).mp (Bool.eq_false_iff.mpr full)) _

end

end Sys2Proof.Machine
end

section
/-! O9: every command keeps queues and fires owned, and what the owners and the Frame Store say bounds the lists. -/

namespace Sys2Proof.Machine

open Sys2Proof.Safety

/-- Queues and fires that are owned stay owned, with the tags in turn before. -/
def KeepsOwned (s t : State) : Prop :=
  TagsInTurn s → Owned s → Owned t

section

variable {s t u : State}

theorem Untouched.keepsOwned (h : Untouched s t) : KeepsOwned s t :=
  fun _ owned => h.owned owned

theorem KeepsOwned.of_owned (h : Owned s → Owned t) : KeepsOwned s t :=
  fun _ owned => h owned

theorem KeepsOwned.after (first : Untouched s t) (h : KeepsOwned t u) : KeepsOwned s u :=
  fun turn owned => h (by unfold TagsInTurn; rw [first.queue]; exact turn) (first.owned owned)

theorem KeepsOwned.before (h : KeepsOwned s t) (last : Untouched t u) : KeepsOwned s u :=
  fun turn owned => last.owned (h turn owned)

/-- With no record, no trigger, no timeout and no fire there is nothing to own. -/
theorem Owned.of_empty (items : s.queue.items = []) (trig : s.trig = Vector.replicate 8 StationTriggers.clear)
    (gates : ∀ g : Gate, gateOf g s = { output := .idle, fires := [] }) : Owned s where
  count := by simp [items]
  apart := by simp [items]
  items := by simp [items]
  stations st := by
    have own : s.trig[st] = StationTriggers.clear := by simp [trig]
    rw [own]
    constructor <;> simp [StationTriggers.clear]
  gates g := by
    rw [gates]
    constructor <;> simp

end

section

variable (s : State)

/-! ## The link's part in it -/

theorem KeepsOwned.goodBlock {owner : State → State} (h : ∀ t, KeepsOwned t (owner t)) : KeepsOwned s (goodBlock owner s) := by
  cases state : s.link.state with
  | aligning =>
    rw [goodBlock_aligning s owner state]
    exact .after (t := { s with link.receiver := .hunt }) ⟨rfl, rfl, rfl, rfl⟩ (Untouched.goodInAligning _).keepsOwned
  | up =>
    rw [goodBlock_up s owner state]
    exact .after (t := heard s) ⟨rfl, rfl, rfl, rfl⟩ (h _)

theorem KeepsOwned.dispatch {owner : State → State × Result × List Byte} (h : ∀ t,
    KeepsOwned t (owner t).1) (kind number : Byte) :
    KeepsOwned s (dispatch kind number owner s) := by
  rw [dispatch_eq]
  exact (h s).before (.offerReply _ _)

theorem KeepsOwned.dispatchOffice (r : OfficeRequest) : KeepsOwned s (dispatchOffice r s) := by
  cases r with
  | idle n => exact .goodBlock s fun t => (Untouched.refl t).keepsOwned
  | verdict n mode address action mask =>
    exact .goodBlock s fun t => .dispatch t (fun _ => .of_owned fun h => h.answerVerdict mode address action mask) _ n
  | keep n target frame tag =>
    exact .goodBlock s fun t => .dispatch t (fun u => (Untouched.answerMark u .k0 true target frame tag).keepsOwned) _ n
  | release n target frame tag =>
    exact .goodBlock s fun t => .dispatch t (fun u => (Untouched.answerMark u .k0 false target frame tag).keepsOwned) _ n
  | fetchRegion n frame tag x y w h factor =>
    exact .goodBlock s fun t => .dispatch t (fun u => (Untouched.answerFetchRegion u n frame tag x y w h factor).keepsOwned) _ n
  | queryItem n mode address =>
    exact .goodBlock s fun t => .dispatch t (fun u => (Untouched.answerItemView u mode address).keepsOwned) _ n
  | queryStatus n => exact .goodBlock s fun t => .dispatch t (fun u => (Untouched.refl u).keepsOwned) _ n
  | unknown kind n => exact .goodBlock s fun t => .dispatch t (fun u => (Untouched.refl u).keepsOwned) kind n

/-! ## The line port's part in it -/

theorem KeepsOwned.enterMode (m : Mode) : KeepsOwned s (enterMode m s) := by
  have moved : Untouched s { s with port.mode := m } := ⟨rfl, rfl, rfl, rfl⟩
  refine .after moved (.of_owned fun h => ?_)
  unfold Machine.enterMode
  cases m with
  | run => exact (Untouched.followLamp _).owned h
  | trackOnly => exact (Untouched.followLamp _).owned h.skipAllQueued
  | halt => exact ((Untouched.swapIfPending _).trans (.followLamp _)).owned h.skipAllQueued

theorem KeepsOwned.clearAll : KeepsOwned s (clearAll s) :=
  fun _ _ => (Untouched.followLamp _).owned (.of_empty rfl rfl fun g => by cases g <;> rfl)

theorem KeepsOwned.ownerAnswer (r : LineRequest) : KeepsOwned s (ownerAnswer r s).1 := by
  have still : KeepsOwned s s := (Untouched.refl s).keepsOwned
  cases r with
  | readStatus => exact Untouched.keepsOwned ⟨rfl, rfl, rfl, rfl⟩
  | setMode mode =>
    obtain same | ⟨m, same, -, -⟩ := answerSetMode_cases s mode
    · exact (congrArg (KeepsOwned s) same).mpr still
    · exact (congrArg (KeepsOwned s) same).mpr (.enterMode s m)
  | configure items =>
    obtain same | ⟨c, same, -⟩ := answerConfigure_cases s items
    · exact (congrArg (KeepsOwned s) same).mpr still
    · exact (congrArg (KeepsOwned s) same).mpr (Untouched.keepsOwned ⟨rfl, rfl, rfl, rfl⟩)
  | readConfiguration => exact still
  | writePlan p =>
    obtain same | ⟨n, -, -, same⟩ := answerWritePlan_cases s p
    · exact (congrArg (KeepsOwned s) same).mpr still
    · exact (congrArg (KeepsOwned s) same).mpr (Untouched.updBank s n _).keepsOwned
  | commitPlan bank => exact (Untouched.answerCommitPlan s bank).keepsOwned
  | readPlan bank =>
    show KeepsOwned s (answerReadPlan bank s).1
    unfold answerReadPlan
    split <;> exact still
  | announceItem back => exact fun turn h => h.answerAnnounceItem turn back
  | voidItem mode n => exact .of_owned fun h => h.answerVoidItem mode n
  | forceDecision mode n action => exact .of_owned fun h => h.answerForceDecision mode n action
  | readItem mode n => exact (Untouched.answerItemView s mode n).keepsOwned
  | keep target n tag => exact (Untouched.answerMark s .k1 true target n tag).keepsOwned
  | release target n tag => exact (Untouched.answerMark s .k1 false target n tag).keepsOwned
  | readEvents => exact still
  | clearEvents marks => exact Untouched.keepsOwned ⟨rfl, rfl, rfl, rfl⟩
  | setEvents marks => exact Untouched.keepsOwned ⟨rfl, rfl, rfl, rfl⟩
  | setEventEnables e => exact Untouched.keepsOwned ⟨rfl, rfl, rfl, rfl⟩
  | readCounts c =>
    show KeepsOwned s (answerReadCounts c s).1
    unfold answerReadCounts
    split
    · exact still
    · split
      · exact Untouched.keepsOwned ⟨rfl, rfl, rfl, rfl⟩
      · exact still
  | clear => exact .clearAll s

theorem KeepsOwned.takeRequest (r : LineRequest) : KeepsOwned s (takeRequest r s) := by
  cases free : busy s with
  | true =>
    rw [takeRequest_of_busy s r free]
    exact Untouched.keepsOwned ⟨rfl, rfl, rfl, rfl⟩
  | false =>
    rw [takeRequest_of_free s r free]
    have answered (t : State) : KeepsOwned t (answerTaken r t).1 := by
      unfold answerTaken
      split
      · exact .ownerAnswer t r
      · exact (Untouched.refl t).keepsOwned
    have sent : Untouched s (sendZeros r.transaction.length s) := ⟨rfl, rfl, rfl, rfl⟩
    have held (a : State × Result × List Byte) : Untouched a.1 (holdAnswer r.code a) := ⟨rfl, rfl, rfl, rfl⟩
    exact (KeepsOwned.after sent (answered _)).before (held _)

theorem KeepsOwned.transaction (bytes : List Byte) : KeepsOwned s (transaction bytes s) := by
  unfold Machine.transaction
  split
  · exact Untouched.keepsOwned ⟨rfl, rfl, rfl, rfl⟩
  · split <;> exact Untouched.keepsOwned ⟨rfl, rfl, rfl, rfl⟩
  · split
    · exact Untouched.keepsOwned ⟨rfl, rfl, rfl, rfl⟩
    · split
      · exact .takeRequest s _
      · unfold badWrite
        split <;> exact Untouched.keepsOwned ⟨rfl, rfl, rfl, rfl⟩

theorem KeepsOwned.bus (a : BusArrival) : ∃ t, exec (.writeRequest a) s = .next t ∧ KeepsOwned s t := by
  refine ⟨_, rfl, ?_⟩
  cases a with
  | transaction bytes => exact .transaction s bytes
  | chipSelect =>
    dsimp only
    unfold assertSelect
    split <;> exact Untouched.keepsOwned ⟨rfl, rfl, rfl, rfl⟩
  | busByte b =>
    dsimp only
    unfold shiftByte sendBehindStatus
    split
    case h_5 =>
      split
      · exact Untouched.keepsOwned ⟨rfl, rfl, rfl, rfl⟩
      · split <;> exact Untouched.keepsOwned ⟨rfl, rfl, rfl, rfl⟩
    all_goals exact Untouched.keepsOwned ⟨rfl, rfl, rfl, rfl⟩
  | release =>
    dsimp only
    unfold releaseSelect
    split
    case h_3 => exact .transaction s _
    all_goals exact Untouched.keepsOwned ⟨rfl, rfl, rfl, rfl⟩

/-! ## Encoder and cameras -/

theorem Untouched.setPos (p : PositionUnit) : Untouched s { s with pos := p } :=
  ⟨rfl, rfl, rfl, rfl⟩

variable {s}

theorem Owned.counted (h : Owned s) (d : Direction) (o : WatchOrder) : Owned (Machine.count d o s) :=
  List.foldlRecOn (motive := Owned) _ _ ((Untouched.setPos s _).owned h) fun _ h w _ => h.watch w

theorem Owned.feedPrescaler (h : Owned s) (d : Direction) (o : WatchOrder) : Owned (feedPrescaler d o s) := by
  unfold Machine.feedPrescaler
  dsimp only
  split
  · exact ((Untouched.setPos s _).owned h).counted _ o
  · exact (Untouched.setPos s _).owned h

theorem Owned.beginHeader (h : Owned s) (p : Station) : Owned (beginHeader p s) := by
  unfold Machine.beginHeader
  split
  · exact h
  all_goals exact h.syncPattern p

theorem Owned.beginTrailer (h : Owned s) (p : Station) : Owned (beginTrailer p s) := by
  unfold Machine.beginTrailer
  split
  · exact h
  all_goals exact h.endPattern p

theorem Owned.reachTrailer (h : Owned s) (p : Station) : Owned (reachTrailer p s) := by
  unfold Machine.reachTrailer
  split
  · exact h
  all_goals exact h.endPattern p

theorem Owned.takeTrailer (h : Owned s) (p : Station) (rows : Word16) (crc : Word32) : Owned (takeTrailer p rows crc s) := by
  unfold Machine.takeTrailer
  split
  · exact h.trailerArrived _ rows crc
  all_goals exact h

theorem mem_of_scheduledFire? {g : Gate} {tag : Tag} {f : Fire} (found : scheduledFire? g tag s = some f) :
    f ∈ (gateOf g s).fires ∧ f.status = .scheduled := by
  refine ⟨List.mem_of_find?_eq_some found, ?_⟩
  have hit := List.find?_some found
  simp only [Bool.and_eq_true, beq_iff_eq] at hit
  exact hit.2

theorem output_of_recoveryDue {g : Gate} (due : recoveryDue g s = true) : ∃ e, (gateOf g s).output = .recovery e := by
  unfold recoveryDue at due
  split at due
  next e output => exact ⟨e, output⟩
  · cases due
  · cases due

variable (s)

/-! ## The commands -/

/-- Every command keeps queues and fires owned. -/
theorem KeepsOwned.exec (c : Instr) : ∃ t, exec c s = .next t ∧ KeepsOwned s t := by
  have same : KeepsOwned s s := (Untouched.refl s).keepsOwned
  have block (r : OfficeRequest) : KeepsOwned s (Machine.dispatchOffice r (beginBlock s)) :=
    .after (.beginBlock s) (.dispatchOffice _ r)
  have request (r : LineRequest) : KeepsOwned s (Machine.takeRequest r s) := .takeRequest s r
  cases c with
  | resetPin pins => exact ⟨_, rfl, fun _ _ => .of_empty rfl rfl fun g => by cases g <;> rfl⟩
  | encoderStep a b o =>
    refine ⟨_, rfl, .of_owned fun h => ?_⟩
    split
    · exact ((Untouched.setPos s _).owned h).feedPrescaler _ o
    · exact (Untouched.setPos s _).owned h
  | speedWindowEnd =>
    refine ⟨_, rfl, ?_⟩
    split
    · exact Untouched.keepsOwned ⟨rfl, rfl, rfl, rfl⟩
    · exact same
  | sensorRisingEdge =>
    refine ⟨_, rfl, ?_⟩
    have risen : Untouched s { s with pos.sensor := true } := ⟨rfl, rfl, rfl, rfl⟩
    split_ifs
    · exact same
    · exact .after risen fun turn h => h.offerEntry turn _
    · exact risen.keepsOwned
  | infeedSensorFallingEdge => exact ⟨_, rfl, Untouched.keepsOwned ⟨rfl, rfl, rfl, rfl⟩⟩
  | haltInputRisingEdge =>
    refine ⟨_, rfl, ?_⟩
    split
    · exact same
    · have risen : Untouched s { s with pos.halt := true } := ⟨rfl, rfl, rfl, rfl⟩
      exact .of_owned fun h => ((risen.trans (.raise _ _)).owned h).gatesAtHalt
  | haltInputFallingEdge => exact ⟨_, rfl, Untouched.keepsOwned ⟨rfl, rfl, rfl, rfl⟩⟩
  | triggerExaminationAtCreation tag => exact ⟨_, rfl, .of_owned fun h => h.examineTriggers tag⟩
  | decisionExaminationAtCreation tag => exact ⟨_, rfl, .of_owned fun h => h.examineDecision tag⟩
  | trainEnd st => exact ⟨_, rfl, .of_owned fun h => h.execTrainEnd rfl⟩
  | cameraTimeoutExpiry st => exact ⟨_, rfl, .of_owned fun h => h.execCameraTimeoutExpiry rfl⟩
  | gateExaminationAfterPlacing tag =>
    refine ⟨_, rfl, .of_owned fun h => ?_⟩
    split
    next f found =>
      obtain ⟨inside, scheduled⟩ := mem_of_scheduledFire? found
      exact (h.examinePlaced inside scheduled).examineHead
    next =>
      split
      next f found =>
        obtain ⟨inside, scheduled⟩ := mem_of_scheduledFire? found
        exact (h.examinePlaced inside scheduled).examineHead
      next => exact h
  | recoveryExpiry g =>
    refine ⟨_, rfl, .of_owned fun h => ?_⟩
    split
    next due =>
      obtain ⟨e, output⟩ := output_of_recoveryDue due
      exact (h.leaveRecovery output).examineHead
    next => exact h
  | lampBlinkToggle =>
    refine ⟨_, rfl, ?_⟩
    split
    · exact Untouched.keepsOwned ⟨rfl, rfl, rfl, rfl⟩
    · exact same
  | frameHeader p header =>
    refine ⟨_, rfl, .of_owned fun h => ?_⟩
    cases header with
    | pattern => exact h.syncPattern p
    | complete word width height depth => exact (h.beginHeader p).headerArrived _ _ _ _
    | cutBySync => exact (h.beginHeader p).syncPattern p
    | cutByEnd => exact (h.beginHeader p).endPattern p
  | pixelByte p b =>
    refine ⟨_, rfl, .of_owned fun h => ?_⟩
    split
    · exact h.pixelReceived _ p b
    · exact h.headerByte p _
    · exact h.trailerByte _ p _
    · exact h
    · exact h
  | frameTrailer p rows crc => exact ⟨_, rfl, .of_owned fun h => (h.beginTrailer p).takeTrailer p rows crc⟩
  | frameEndedWithoutTrailer p cut =>
    refine ⟨_, rfl, .of_owned fun h => ?_⟩
    cases cut with
    | pixelsByEnd => exact h.endPattern p
    | pixelsBySync => exact h.syncPattern p
    | trailerBySync => exact (h.reachTrailer p).syncPattern p
    | trailerByEnd => exact (h.reachTrailer p).endPattern p
  | writeGrant =>
    refine ⟨_, rfl, ?_⟩
    split
    · exact (Untouched.grantPort s _).keepsOwned
    · exact same
    · exact same
  | grantEnd =>
    refine ⟨_, rfl, ?_⟩
    split
    · exact .after (t := { s with ingest.grant := none }) ⟨rfl, rfl, rfl, rfl⟩ (Untouched.finishGrant _ _).keepsOwned
    · exact same
  | segmentBoundary => exact ⟨_, rfl, ((Untouched.endSegment s).trans (.chooseSegment _)).keepsOwned⟩
  | badBlock a =>
    refine ⟨_, rfl, ?_⟩
    cases a with
    | checkFails => exact ((Untouched.beginBlock s).trans (.badBlock _ .hunt)).keepsOwned
    | cutShort => exact ((Untouched.beginBlock s).trans (.blockStart _)).keepsOwned
    | blockStart => exact (Untouched.blockStart s).keepsOwned
    | dataByte b =>
      dsimp only
      unfold downlinkByte
      split
      · exact same
      · split_ifs
        · exact Untouched.keepsOwned ⟨rfl, rfl, rfl, rfl⟩
        · exact .dispatchOffice s _
        · exact (Untouched.badBlock s .hunt).keepsOwned
  | idleBlock n => exact ⟨_, rfl, block (.idle n)⟩
  | verdict n mode address action mask => exact ⟨_, rfl, block (.verdict n mode address action mask)⟩
  | keep master target n tag =>
    cases master with
    | office m => exact ⟨_, rfl, block (.keep m target n tag)⟩
    | lineController => exact ⟨_, rfl, request (.keep target n tag)⟩
  | release master target n tag =>
    cases master with
    | office m => exact ⟨_, rfl, block (.release m target n tag)⟩
    | lineController => exact ⟨_, rfl, request (.release target n tag)⟩
  | fetchRegion n frame tag x y w h factor => exact ⟨_, rfl, block (.fetchRegion n frame tag x y w h factor)⟩
  | queryItem n mode address => exact ⟨_, rfl, block (.queryItem n mode address)⟩
  | queryStatus n => exact ⟨_, rfl, block (.queryStatus n)⟩
  | unknownRequestKind kind n => exact ⟨_, rfl, block (.unknown kind n)⟩
  | lossTimerExpiry =>
    refine ⟨_, rfl, ?_⟩
    split
    · exact (Untouched.linkDown s).keepsOwned
    · exact same
  | readResponse n => exact ⟨_, rfl, Untouched.keepsOwned ⟨rfl, rfl, rfl, rfl⟩⟩
  | writeRequest a => exact KeepsOwned.bus s a
  | responsePlaced =>
    refine ⟨_, rfl, ?_⟩
    unfold placeResponse
    split <;> exact Untouched.keepsOwned ⟨rfl, rfl, rfl, rfl⟩
  | readStatus => exact ⟨_, rfl, request .readStatus⟩
  | setMode mode => exact ⟨_, rfl, request (.setMode mode)⟩
  | configure items => exact ⟨_, rfl, request (.configure items)⟩
  | readConfiguration => exact ⟨_, rfl, request .readConfiguration⟩
  | writePlan plan => exact ⟨_, rfl, request (.writePlan plan)⟩
  | commitPlan bank => exact ⟨_, rfl, request (.commitPlan bank)⟩
  | readPlan bank => exact ⟨_, rfl, request (.readPlan bank)⟩
  | announceItem back => exact ⟨_, rfl, request (.announceItem back)⟩
  | voidItem mode n => exact ⟨_, rfl, request (.voidItem mode n)⟩
  | forceDecision mode n action => exact ⟨_, rfl, request (.forceDecision mode n action)⟩
  | readItem mode n => exact ⟨_, rfl, request (.readItem mode n)⟩
  | readEvents => exact ⟨_, rfl, request .readEvents⟩
  | clearEvents marks => exact ⟨_, rfl, request (.clearEvents marks)⟩
  | setEvents marks => exact ⟨_, rfl, request (.setEvents marks)⟩
  | setEventEnables e => exact ⟨_, rfl, request (.setEventEnables e)⟩
  | readCounts choice => exact ⟨_, rfl, request (.readCounts choice)⟩
  | clear => exact ⟨_, rfl, request .clear⟩

theorem stepKeeps_queuesOwned : StepKeeps QueuesOwned := by
  refine stepKeeps_of_exec (fun s time l h => ?_) fun c s t done h => ?_
  · obtain ⟨turn, owned⟩ := queuesOwned_iff.mp h
    exact queuesOwned_iff.mpr ⟨turn, Untouched.owned (s := s) ⟨rfl, rfl, rfl, rfl⟩ owned⟩
  · obtain ⟨turn, owned⟩ := queuesOwned_iff.mp h
    obtain ⟨u, same, keeps⟩ := KeepsOwned.exec s c
    obtain rfl : u = t := Host.Outcome.next.inj (same.symm.trans done)
    exact queuesOwned_iff.mpr ⟨(effect_of_exec done).lawful.tags turn, keeps turn owned⟩

end

/-! ## The lengths -/

section

variable {s : State}

/-- A list of tags, none twice and each of a record, is no longer than the queue. -/
theorem Owned.length_le {l : List Tag} (h : Owned s) (once : l.Nodup) (live : ∀ tag ∈ l, ∃ i ∈ s.queue.items, i.tag = tag) :
    l.length ≤ 128 := by
  have inside : l ⊆ s.queue.items.map Item.tag := fun tag member => List.mem_map.mpr (live tag member)
  calc l.length ≤ (s.queue.items.map Item.tag).length := (once.subperm inside).length_le
    _ = s.queue.items.length := List.length_map ..
    _ ≤ 128 := h.count

theorem Owned.timeouts_length_le (h : Owned s) (st : Station) : s.trig[st].timeouts.length ≤ 128 := by
  have bound := h.length_le (h.stations st).timedOnce fun tag listed => by
    obtain ⟨e, timed, rfl⟩ := List.mem_map.mp listed
    obtain ⟨i, member, own, -⟩ := (h.stations st).timed e timed
    exact ⟨i, member, own⟩
  rwa [List.length_map] at bound

theorem Owned.fires_length_le (h : Owned s) (g : Gate) : (gateOf g s).fires.length ≤ 128 := by
  have bound := h.length_le (h.gates g).once fun tag listed => by
    obtain ⟨f, inside, rfl⟩ := List.mem_map.mp listed
    obtain ⟨i, member, own, -⟩ := (h.gates g).fires f inside
    exact ⟨i, member, own⟩
  rwa [List.length_map] at bound

theorem length_le_of_frames_once {l : List FrameId} (once : l.Nodup) : l.length ≤ 1024 :=
  once.length_le_card.trans (Fintype.card_fin 1024).le

theorem countP_toList_le_one {α : Type} (o : Option α) (p : α → Bool) : o.toList.countP p ≤ 1 :=
  List.countP_le_length.trans (by cases o <;> simp)

/-- A deadline and a background transmission are never open on one frame, so that at most two are (R111, R136). -/
theorem transmissionsOn_le_two {u : Uplink} (apart : ∀ x ∈ u.deadline.toList, ∀ y ∈ u.background.toList, x.frame ≠ y.frame)
    (id : FrameId) : transmissionsOn id u ≤ 2 := by
  have region := countP_toList_le_one u.region fun x => x.frame == id
  have frames : (u.deadline.toList.countP fun x => x.frame == id) + (u.background.toList.countP fun x => x.frame == id) ≤ 1 := by
    have deadline := countP_toList_le_one u.deadline fun x => x.frame == id
    have background := countP_toList_le_one u.background fun x => x.frame == id
    by_cases both : 0 < (u.deadline.toList.countP fun x => x.frame == id) ∧ 0 < u.background.toList.countP fun x => x.frame == id
    · obtain ⟨x, one, here⟩ := List.countP_pos_iff.mp both.1
      obtain ⟨y, other, there⟩ := List.countP_pos_iff.mp both.2
      exact absurd ((beq_iff_eq.mp here).trans (beq_iff_eq.mp there).symm) (apart x one y other)
    · omega
  unfold transmissionsOn
  omega

end

end Sys2Proof.Machine

open Sys2Proof Sys2Proof.Machine Sys2Proof.Safety

/-- Settles O9: the bounds are those of every command's effect; queued triggers, timeouts and fires stay each that of one
live record, which bounds them by the queue; the lists of frames name each frame once. -/
theorem everyStepKeepsTheBounds : Obligations.EveryStepKeepsTheBounds := by
  unfold Obligations.EveryStepKeepsTheBounds
  refine ⟨stepKeeps_withinBounds, stepKeeps_queuesOwned, fun s h => ?_, fun s h => ?_⟩
  · have owned := (queuesOwned_iff.mp h).2
    exact ⟨owned.timeouts_length_le, owned.fires_length_le⟩
  · refine ⟨length_le_of_frames_once h.reclaimNodup, length_le_of_frames_once h.orderNodup, fun id => ?_⟩
    rw [h.openCounted]
    exact transmissionsOn_le_two h.openApart id

end
